-- ==== Sys2Proof/Word.lean ====
section
/-! DEFINITION. The word types of the engine (00_scope.md R9): bytes, device addresses, sequence numbers, command
and response words, and the two small records the spec builds from them, the wire frame and the logical packet. -/

namespace Sys2Proof

/-- 8 bits, unsigned (R9). -/
abbrev Byte := BitVec 8

/-- A device address, 5 bits, all 32 values ordinary (20_memory.md R60). -/
abbrev Addr := BitVec 5

/-- A sequence number, 3 bits: the decoder extracts all three (30_encoding.md R73, 90_conflicts.md C2). -/
abbrev Seq := BitVec 3

/-- A command word (30_encoding.md R76). -/
abbrev CmdWord := BitVec 16

/-- A response word (30_encoding.md R77). -/
abbrev RspWord := BitVec 32

/-- Four bytes in wire order (30_encoding.md R70, 20_memory.md R55): `b0` sync, `b1` addrSeq, `b2` data,
`b3` checksum. The scan window `W[0..3]` has the same shape (10_state.md R22). Not every value is a valid frame. -/
structure Frame where
  b0 : Byte
  b1 : Byte
  b2 : Byte
  b3 : Byte
deriving DecidableEq, Repr

/-- A logical packet (30_encoding.md R73): address, sequence (0 to 7 on the receive side), data. -/
structure Packet where
  address : Addr
  sequence : Seq
  data : Byte
deriving DecidableEq, Repr

end Sys2Proof
end

