-- ==== Sys2Proof/Config.lean ====
section
/-! DEFINITION. The constants the source fixes (00_scope.md R7) and the free values, which nothing fixes. -/

namespace Sys2Proof

/-- `SYNC` (R7): the marker in byte 0 of a frame. -/
@[simp] abbrev Config.sync : Byte := 0xAA#8

/-- `FRAME_LEN` (R7): bytes in a wire frame and in the scan window. -/
@[simp] abbrev Config.frameLen : Nat := 4

/-- `REPEAT` (R7): frames for each logical packet. -/
@[simp] abbrev Config.repeatCount : Nat := 3

/-- `ADDR_SHIFT` (R7): the shift between an address and `addrSeq`. -/
@[simp] abbrev Config.addrShift : Nat := 3

/-- `SEQ_MASK` (R7): the mask the decoder applies to `addrSeq`. -/
@[simp] abbrev Config.seqMask : Byte := 0x7#8

/-- The last value of `TCNT` in an ENCODE, 11 (10_state.md R29): the index of the twelfth byte. -/
@[simp] abbrev Config.lastTx : BitVec 4 := 11#4

/-- `UNSPEC8` (45_combiner.md R200) and the 8-bit registers after the Reset step (70_reset_and_hazards.md R251):
a value no rule fixes, the `n`-th draw. Nothing can be proved of it. DESIGN CHOICE of form, logs 4 and 5. Safe. -/
opaque Config.unspec8 : Nat → BitVec 8

/-- The 5-bit registers after the Reset step (R251): a value no rule fixes, the `n`-th draw (log 4). Safe. -/
opaque Config.unspec5 : Nat → BitVec 5

/-- `RSP` after the Reset step (R251): a value no rule fixes, the `n`-th draw (log 4). Safe. -/
opaque Config.unspec32 : Nat → BitVec 32

/-- The bytes of an endless receive stream (00_scope.md R8, 20_memory.md R51): byte `n` of the stream `k`, an argument
of the environment, which no rule fixes. A statement about it holds for every infinite sequence of bytes (log 14). Safe. -/
opaque Config.rxByte : Nat → Nat → BitVec 8

end Sys2Proof
end

