-- ==== Sys2Proof/Syntax.lean ====
section
/-! DEFINITION. The opcode table (spec/opcode_table.json, 30_encoding.md R86) as one inductive: one constructor
for each of its 16 rows. The eight FRAME rows carry the three fields of their pattern, the command rows the operand
bits that are not ignored (R76). -/

namespace Sys2Proof

/-- One constructor for each row of spec/opcode_table.json. In a FRAME row `a` is the address, `d` the data and `c`
the checksum byte; the row's constraint on `c` is `Instr.wellFormed`. -/
inductive Instr where
  /-- `FRAME.SEQ0`, `10101010aaaaa000ddddddddcccccccc` (R70, R122). -/
  | frameSeq0 (a : Addr) (d c : Byte)
  /-- `FRAME.SEQ1`, `10101010aaaaa001ddddddddcccccccc` (R70, R122). -/
  | frameSeq1 (a : Addr) (d c : Byte)
  /-- `FRAME.SEQ2`, `10101010aaaaa010ddddddddcccccccc` (R70, R122). -/
  | frameSeq2 (a : Addr) (d c : Byte)
  /-- `FRAME.SEQ3`, `10101010aaaaa011ddddddddcccccccc` (R70, R80). -/
  | frameSeq3 (a : Addr) (d c : Byte)
  /-- `FRAME.SEQ4`, `10101010aaaaa100ddddddddcccccccc` (R70, R80). -/
  | frameSeq4 (a : Addr) (d c : Byte)
  /-- `FRAME.SEQ5`, `10101010aaaaa101ddddddddcccccccc` (R70, R80). -/
  | frameSeq5 (a : Addr) (d c : Byte)
  /-- `FRAME.SEQ6`, `10101010aaaaa110ddddddddcccccccc` (R70, R80). -/
  | frameSeq6 (a : Addr) (d c : Byte)
  /-- `FRAME.SEQ7`, `10101010aaaaa111ddddddddcccccccc` (R70, R80). -/
  | frameSeq7 (a : Addr) (d c : Byte)
  /-- `NOP`, `000xxxxxxxxxxxxx` (R103). -/
  | nop
  /-- `ENCODE a, d`, `001aaaaadddddddd` (R140). -/
  | encode (a : Addr) (d : Byte)
  /-- `SCAN`, `010xxxxxxxxxxxxx` (R155). -/
  | scan
  /-- `RECV`, `011xxxxxxxxxxxxx` (R162). -/
  | recv
  /-- `FILTER a`, `100aaaaaxxxxxxxx` (R175). -/
  | filter (a : Addr)
  /-- `COMBINE a`, `101aaaaaxxxxxxxx` (R190). -/
  | combine (a : Addr)
  /-- `RESERVED6`, `110xxxxxxxxxxxxx` (R81, R106). -/
  | reserved6
  /-- `RESERVED7`, `111xxxxxxxxxxxxx` (R81, R106). -/
  | reserved7
deriving DecidableEq, Repr

end Sys2Proof
end

