-- ==== Sys2Proof/WellFormed.lean ====
section
/-! DEFINITION. Which instructions are well formed: a FRAME row's checksum constraint (spec/opcode_table.json,
41_frame_functions.md R120), and the operand ranges of the textual notation (30_encoding.md R84, 42_encoder.md R147). -/

namespace Sys2Proof

/-- The constraint of a FRAME row: the checksum byte is byte 1 XOR byte 2, byte 1 being the address over the sequence
(`aaaaasss`, R70, R72). -/
def checksumFits (a : Addr) (q : Seq) (d c : Byte) : Bool :=
  c == (a ++ q) ^^^ d

/-- A FRAME row is a frame only if its checksum fits (R86, R120). A command row has no ill-formed operand: its fields
are 5 and 8 bits wide, and every value of them is legal (R60, R79, R147). -/
def Instr.wellFormed : Instr → Bool
  | .frameSeq0 a d c => checksumFits a 0#3 d c
  | .frameSeq1 a d c => checksumFits a 1#3 d c
  | .frameSeq2 a d c => checksumFits a 2#3 d c
  | .frameSeq3 a d c => checksumFits a 3#3 d c
  | .frameSeq4 a d c => checksumFits a 4#3 d c
  | .frameSeq5 a d c => checksumFits a 5#3 d c
  | .frameSeq6 a d c => checksumFits a 6#3 d c
  | .frameSeq7 a d c => checksumFits a 7#3 d c
  | .nop => true
  | .encode _ _ => true
  | .scan => true
  | .recv => true
  | .filter _ => true
  | .combine _ => true
  | .reserved6 => true
  | .reserved7 => true

/-- An operation in the textual notation of R84, its operands written as numbers. -/
inductive Notation where
  | nop
  | encode (a d : Nat)
  | scan
  | recv
  | filter (a : Nat)
  | combine (a : Nat)
deriving DecidableEq, Repr

/-- The operand ranges of R84: an address is 0 to 31, a data byte 0 to 255. A number outside is refused, never
reduced (R147, 93_implementation_defined.md U3). -/
def Notation.wellFormed : Notation → Bool
  | .nop => true
  | .encode a d => decide (a < 32) && decide (d < 256)
  | .scan => true
  | .recv => true
  | .filter a => decide (a < 32)
  | .combine a => decide (a < 32)

end Sys2Proof
end

