-- ==== Sys2Proof/Decode.lean ====
section
/-! DEFINITION. The pure functions on frames (41_frame_functions.md R120 to R122), the decoder of command words and
of wire frames (30_encoding.md R76, R86), the encoder, and the textual notation's assembler (R84). -/

namespace Sys2Proof

/-! ### Valid, EncodeFrame, Decode -/

/-- `Valid(F)` (R120): sync and checksum, and nothing else. -/
def Frame.valid (f : Frame) : Bool :=
  f.b0 == Config.sync && f.b3 == (f.b1 ^^^ f.b2)

/-- `addrSeq = (zext_8(address) << 3) | zext_8(sequence)` (R75). -/
def addrSeq (a : Addr) (q : Seq) : Byte :=
  (a.setWidth 8 <<< Config.addrShift) ||| q.setWidth 8

/-- The four bytes of a FRAME row, its checksum byte as given (R70). -/
def wireFrame (a : Addr) (q : Seq) (d c : Byte) : Frame :=
  { b0 := Config.sync, b1 := addrSeq a q, b2 := d, b3 := c }

/-- `EncodeFrame(a, i, d)` (R121). -/
def encodeFrame (a : Addr) (i : Seq) (d : Byte) : Frame :=
  wireFrame a i d (addrSeq a i ^^^ d)

/-- `Decode(F)` (R122), total: the same formulas on any four bytes (92_eei_decisions.md D13). -/
def Frame.packet (f : Frame) : Packet :=
  { address := (f.b1 >>> Config.addrShift).setWidth 5
    sequence := (f.b1 &&& Config.seqMask).setWidth 3
    data := f.b2 }

/-! ### The decoder -/

/-- Why four bytes are no frame (R78). It is no trap: the scanner drops the oldest byte and goes on. -/
inductive DecodeError where
  /-- Byte 0 is not `0xAA`. -/
  | badSync
  /-- Byte 3 is not byte 1 XOR byte 2. -/
  | badChecksum
deriving DecidableEq, Repr

/-- What an instruction is written as: a command word or four wire bytes (R70, R76). -/
inductive Code where
  | command (c : CmdWord)
  | frame (f : Frame)
deriving DecidableEq, Repr

/-- The FRAME row of sequence `q` (R86): one row for each of the eight values. -/
def Instr.ofSeq (q : Seq) (a : Addr) (d c : Byte) : Instr :=
  match q.toFin with
  | 0 => .frameSeq0 a d c
  | 1 => .frameSeq1 a d c
  | 2 => .frameSeq2 a d c
  | 3 => .frameSeq3 a d c
  | 4 => .frameSeq4 a d c
  | 5 => .frameSeq5 a d c
  | 6 => .frameSeq6 a d c
  | 7 => .frameSeq7 a d c

/-- A decoder built from the FRAME rows is `Valid` plus `Decode` (R86). -/
def decodeFrame (f : Frame) : Except DecodeError Instr :=
  if f.b0 ≠ Config.sync then .error .badSync
  else if f.b3 ≠ f.b1 ^^^ f.b2 then .error .badChecksum
  else .ok (Instr.ofSeq f.packet.sequence f.packet.address f.packet.data f.b3)

/-- `CMD[15:13]` (R76). -/
def CmdWord.opc (c : CmdWord) : BitVec 3 := c.extractLsb' 13 3

/-- `CMD[12:8]` (R76). -/
def CmdWord.a (c : CmdWord) : Addr := c.extractLsb' 8 5

/-- `CMD[7:0]` (R76). -/
def CmdWord.d (c : CmdWord) : Byte := c.extractLsb' 0 8

/-- The command rows of R76: every 16-bit word has one, the ignored bits dropped (92_eei_decisions.md D8). Opcodes 6
and 7 have rows of their own (R81), log 7. -/
def decodeCommand (c : CmdWord) : Instr :=
  match (CmdWord.opc c).toFin with
  | 0 => .nop
  | 1 => .encode (CmdWord.a c) (CmdWord.d c)
  | 2 => .scan
  | 3 => .recv
  | 4 => .filter (CmdWord.a c)
  | 5 => .combine (CmdWord.a c)
  | 6 => .reserved6
  | 7 => .reserved7

/-- The decoder, total on command words and on any four bytes. -/
def decode : Code → Except DecodeError Instr
  | .command c => .ok (decodeCommand c)
  | .frame f => decodeFrame f

/-! ### The encoder -/

/-- A command word from its three fields (R76). -/
def commandWord (opc : BitVec 3) (a : Addr) (d : Byte) : CmdWord :=
  (opc ++ a) ++ d

/-- The word or the four bytes of an instruction; ignored operand bits are written as zeros (R84). -/
def encode : Instr → Code
  | .frameSeq0 a d c => .frame (wireFrame a 0#3 d c)
  | .frameSeq1 a d c => .frame (wireFrame a 1#3 d c)
  | .frameSeq2 a d c => .frame (wireFrame a 2#3 d c)
  | .frameSeq3 a d c => .frame (wireFrame a 3#3 d c)
  | .frameSeq4 a d c => .frame (wireFrame a 4#3 d c)
  | .frameSeq5 a d c => .frame (wireFrame a 5#3 d c)
  | .frameSeq6 a d c => .frame (wireFrame a 6#3 d c)
  | .frameSeq7 a d c => .frame (wireFrame a 7#3 d c)
  | .nop => .command (commandWord 0#3 0#5 0#8)
  | .encode a d => .command (commandWord 1#3 a d)
  | .scan => .command (commandWord 2#3 0#5 0#8)
  | .recv => .command (commandWord 3#3 0#5 0#8)
  | .filter a => .command (commandWord 4#3 a 0#8)
  | .combine a => .command (commandWord 5#3 a 0#8)
  | .reserved6 => .command (commandWord 6#3 0#5 0#8)
  | .reserved7 => .command (commandWord 7#3 0#5 0#8)

/-! ### The textual notation (R84) -/

/-- The command word of a line of the notation (R84), as that rule's table computes it; none for an operand out of
range (R147), log 16. -/
def assemble (p : Notation) : Option CmdWord :=
  if p.wellFormed then
    some (match p with
      | .nop => 0x0000#16
      | .encode a d => BitVec.ofNat 16 (0x2000 + (a <<< 8) + d)
      | .scan => 0x4000#16
      | .recv => 0x6000#16
      | .filter a => BitVec.ofNat 16 (0x8000 + (a <<< 8))
      | .combine a => BitVec.ofNat 16 (0xA000 + (a <<< 8)))
  else none

/-- The instruction a line of the notation names; none for an operand out of range, which is refused, never reduced
(R147), log 16. -/
def Notation.toInstr (p : Notation) : Option Instr :=
  if p.wellFormed then
    some (match p with
      | .nop => .nop
      | .encode a d => .encode (BitVec.ofNat 5 a) (BitVec.ofNat 8 d)
      | .scan => .scan
      | .recv => .recv
      | .filter a => .filter (BitVec.ofNat 5 a)
      | .combine a => .combine (BitVec.ofNat 5 a))
  else none

/-! ### The opcode table's words -/

/-- The four wire bytes of a 32-bit table word: offset 0 in bits 31:24 (R86, the table's bit_order_note), log 10. -/
def frameOfWord (w : BitVec 32) : Frame :=
  { b0 := w.extractLsb' 24 8, b1 := w.extractLsb' 16 8, b2 := w.extractLsb' 8 8, b3 := w.extractLsb' 0 8 }

/-- The instruction the decoder reads from a table word of `nbits` bits: a 16-bit command word or a 32-bit frame
(R86); none where the decoder refuses it (log 10). -/
def decodeTableWord (nbits w : Nat) : Option Instr :=
  if nbits = 16 then some (decodeCommand (BitVec.ofNat 16 w))
  else if nbits = 32 then (decodeFrame (frameOfWord (BitVec.ofNat 32 w))).toOption
  else none

end Sys2Proof
end

