-- ==== Sys2Proof/Machine/State.lean ====
section
/-! DEFINITION. The state of the machine as plain data: the engine's registers (10_state.md R22 to R31), the two byte
streams and the two ports its steps are joint with (R20, R21), and the model's own fields; the reasons a step can
stop; the state after reset (R37). -/

namespace Sys2Proof.Machine

/-- `OP` (R29): the operation in progress. The six legal values (R31); 6 and 7 are never reached (R29, log 12). -/
inductive Op where
  | idle
  | encode
  | scan
  | recv
  | filter
  | combine
deriving DecidableEq, Repr

/-- `CPH` (R29): which fetch a COMBINE is waiting on. The value 3 is never reached (log 12). -/
inductive Phase where
  | p0
  | p1
  | p2
deriving DecidableEq, Repr

/-- `SD[0..2]` (R23): the data bytes of the vote slots. -/
structure SlotData where
  d0 : Byte
  d1 : Byte
  d2 : Byte
deriving DecidableEq, Repr

/-- The Byte Channel as far as the engine depends on it (60_exceptions.md R232, 70_reset_and_hazards.md R253): not
opened yet, or opened with the two enables of its configuration. Log 13. -/
inductive Channel where
  | closed
  | opened (transmitEnabled receiveEnabled : Bool)
deriving DecidableEq, Repr

/-- How the receive stream goes on behind its listed bytes (20_memory.md R51): it ends there, or it goes on for ever with
the bytes `next`, `next + 1`, … of the endless stream `source` (`Config.rxByte`), log 14. -/
inductive RxTail where
  | ends
  | endless (source next : Nat)
deriving DecidableEq, Repr

/-- The receive stream, any finite or infinite sequence of bytes (00_scope.md R8, R51), as plain data: the bytes written
out, next one first, and what follows them. Log 14. -/
structure RxStream where
  listed : List Byte
  tail : RxTail
deriving DecidableEq, Repr

/-- What host and channel do at one step (R35): both take part in the step that is enabled; the one it needs is not
ready and nothing moves; the host resets the engine (R251); the channel is opened (R253). DESIGN CHOICE, log 1. -/
inductive Turn where
  | ready
  | wait
  | reset
  | openChannel (transmitEnabled receiveEnabled : Bool)
deriving DecidableEq, Repr

/-- The whole machine. Registers of the engine first, then what belongs to channel and host (R21), then the model's own
fields (logs 1, 5 and 6). -/
structure State where
  /-- `OP`, the operation in progress (R29). -/
  op : Op
  /-- `RSPV`, response valid (R30). -/
  rspv : Bool
  /-- `TCNT`, the index of the next byte an ENCODE will send (R29). -/
  tcnt : BitVec 4
  /-- `WN`, the number of bytes in the window (R29). -/
  wn : BitVec 3
  /-- `CPH`, the fetch a COMBINE is waiting on (R29). -/
  cph : Phase
  /-- `W[0..3]`, the scan window (R22). -/
  w : Frame
  /-- `SV[0..2]`, the slot-filled bits, bit i being `SV[i]` (R23). -/
  sv : BitVec 3
  /-- `SD[0..2]`, the vote-slot data (R23). -/
  sd : SlotData
  /-- `TADDR`, the address of the ENCODE in progress (R24). -/
  taddr : Addr
  /-- `TDATA`, the payload of the ENCODE in progress (R24). -/
  tdata : Byte
  /-- `LOCAL`, the local address of the FILTER or COMBINE in progress (R27). -/
  localAddr : Addr
  /-- `RSP`, the response register (R25). -/
  rsp : RspWord
  /-- The receive stream: what is still to be yielded (20_memory.md R51), log 14. -/
  rx : RxStream
  /-- The transmit stream: the bytes handed to the channel, oldest first (20_memory.md R51), log 15. -/
  tx : List Byte
  /-- The command words the host offers, next one first (40_command_interface.md R101). -/
  cmds : List CmdWord
  /-- The responses the host has taken, oldest first (40_command_interface.md R105), log 15. -/
  taken : List RspWord
  /-- Whether the Byte Channel is open (R253), log 13. -/
  channel : Channel
  /-- The turns of host and channel at the next steps; after them both are always ready (R263), log 1. -/
  sched : List Turn
  /-- `REFETCH_FILTERED` (00_scope.md R8): a parameter, which no step writes, log 6. -/
  refetchFiltered : Bool
  /-- How many free values have been drawn (log 5). -/
  draws : Nat
deriving DecidableEq, Repr

/-- Model faults. There is none: the engine has no exception, no trap and no fault status, and no operation can fail
(60_exceptions.md R220). -/
inductive Fault
deriving DecidableEq, Repr

/-- Why the model gives a step no outcome. -/
inductive Refusal where
  /-- An instruction without a meaning; raised by no arm of `exec`. Safe. -/
  | notModelled (mnemonic : String)
  /-- Raised by a byte transfer of either direction while the channel was not opened: the spec says nothing of it
  (R253, 93_implementation_defined.md U12). Safe. -/
  | channelNotOpen
  /-- Raised by a TxStep while the channel was opened without `transmitEnabled` (R253). Safe. -/
  | transmitNotEnabled
  /-- Raised by an RxStep while the channel was opened without `receiveEnabled` (R253). Safe. -/
  | receiveNotEnabled
  /-- Raised by opening the channel again: it is opened exactly once (R253). Safe. -/
  | channelAlreadyOpen
deriving DecidableEq, Repr

/-- The machine right after reset (R37): the control registers at the values of its table; the registers the spec leaves
unspecified at 0 (DESIGN CHOICE, unsafe, log 3); nothing offered, received or sent (log 9); the channel open
(the launch premise of R253, log 13); `REFETCH_FILTERED` at the value the spec takes (R8). -/
def State.reset : State where
  op := .idle
  rspv := false
  tcnt := 0#4
  wn := 0#3
  cph := .p0
  w := { b0 := 0#8, b1 := 0#8, b2 := 0#8, b3 := 0#8 }
  sv := 0#3
  sd := { d0 := 0#8, d1 := 0#8, d2 := 0#8 }
  taddr := 0#5
  tdata := 0#8
  localAddr := 0#5
  rsp := 0#32
  rx := { listed := [], tail := .ends }
  tx := []
  cmds := []
  taken := []
  channel := .opened true true
  sched := []
  refetchFiltered := true
  draws := 0

end Sys2Proof.Machine
end

