-- ==== Sys2Proof/Machine/Flags.lean ====
section
/-! DEFINITION. The single-bit state and the computed predicates of 10_state.md section 4 (R30): the slot-filled bits
`SV[0..2]`, `BUSY`, and which kind of step `OP` enables (R35). -/

namespace Sys2Proof.Machine

/-- `SV[i]` is bit i (R23). -/
def slotFilled (sv : BitVec 3) (i : Nat) : Bool := sv.getLsbD i

/-- `SV` with `SV[i]` set. -/
def fillSlot (sv : BitVec 3) (i : Nat) : BitVec 3 := sv ||| (1#3 <<< i)

/-- At least one of `SV[0..2]` is set (93_implementation_defined.md U1). -/
def windowNonEmpty (sv : BitVec 3) : Bool :=
  slotFilled sv 0 || slotFilled sv 1 || slotFilled sv 2

/-- The operations whose steps are RxSteps (R35). -/
def Op.receives : Op → Bool
  | .idle => false
  | .encode => false
  | .scan => true
  | .recv => true
  | .filter => true
  | .combine => true

/-- `BUSY = (OP != IDLE) or (RSPV == 1)` (R30). -/
def State.busy (s : State) : Bool := s.op != .idle || s.rspv

/-- A slot as an optional byte, a view of `SV` and `SD` (R23). -/
def State.slot (s : State) (i : Fin 3) : Option Byte :=
  if slotFilled s.sv i then
    some (match i with
      | 0 => s.sd.d0
      | 1 => s.sd.d1
      | 2 => s.sd.d2)
  else none

end Sys2Proof.Machine
end

