-- ==== Sys2Proof/Machine/Operands.lean ====
section
/-! DEFINITION. Bytes out of an ENCODE's operands (41_frame_functions.md R129), bytes in and out of the scan window
(43_scanner.md R160), results packed into the response word (30_encoding.md R77), and the vote (R123). -/

namespace Sys2Proof.Machine

/-- The byte of a frame at an offset (20_memory.md R55). -/
def frameByte (f : Frame) (j : BitVec 2) : Byte :=
  match j.toFin with
  | 0 => f.b0
  | 1 => f.b1
  | 2 => f.b2
  | 3 => f.b3

/-- `EncByte(a, d, n)` (R129): byte `n mod 4` of frame `n div 4`, which are `n[1:0]` and `n[3:2]` (R126). -/
def encByte (a : Addr) (d : Byte) (n : BitVec 4) : Byte :=
  frameByte (encodeFrame a ((n.extractLsb' 2 2).setWidth 3) d) (n.extractLsb' 0 2)

/-- `W[WN] <- b` (R160). -/
def windowSet (w : Frame) (wn : BitVec 3) (b : Byte) : Frame :=
  if wn = 0#3 then { w with b0 := b }
  else if wn = 1#3 then { w with b1 := b }
  else if wn = 2#3 then { w with b2 := b }
  else { w with b3 := b }

/-- `W[0] <- W[1]; W[1] <- W[2]; W[2] <- W[3]; W[3] <- b` (R156, R160). -/
def windowShift (w : Frame) (b : Byte) : Frame :=
  { b0 := w.b1, b1 := w.b2, b2 := w.b3, b3 := b }

/-- SCAN's response: the four bytes, offset 0 in the highest (R57, R77). -/
def packFrame (f : Frame) : RspWord := ((f.b0 ++ f.b1) ++ f.b2) ++ f.b3

/-- The response of RECV and FILTER: `zext_32({address, sequence, data})` (R77, R161). -/
def packPacket (p : Packet) : RspWord := ((p.address ++ p.sequence) ++ p.data).setWidth 32

/-- COMBINE's response: the resolved byte, the rest 0 (R77, R198). -/
def packByte (b : Byte) : RspWord := b.setWidth 32

/-- `Resolve(SV, SD)` (R123), the order of the tests being part of the function; none for the empty window, whose
result no rule fixes (45_combiner.md R200). -/
def resolve (sv : BitVec 3) (sd : SlotData) : Option Byte :=
  if slotFilled sv 0 then
    if slotFilled sv 1 && slotFilled sv 2 then
      if sd.d1 = sd.d2 then some sd.d1
      else if sd.d0 = sd.d1 then some sd.d0
      else some sd.d0
    else some sd.d0
  else if slotFilled sv 1 then some sd.d1
  else if slotFilled sv 2 then some sd.d2
  else none

end Sys2Proof.Machine
end

