-- ==== Sys2Proof/Machine/Ops.lean ====
section
/-! DEFINITION. The named operations over the registers and the streams: completion (40_command_interface.md R104), the
command and response handshakes (R101, R105), RxPull and TxPush (20_memory.md R52, R53), recording a slot, the Reset
step (70_reset_and_hazards.md R251). There is no exception to take and none to return from (60_exceptions.md R220,
R225, R226), so no such operation exists here. -/

namespace Sys2Proof.Machine

/-! ### The receive stream -/

/-- `RxPull()` on a stream (R52): the first remaining byte and the stream behind it; none while it has no next byte. An
endless stream always has one. -/
def RxStream.pull (x : RxStream) : Option (Byte × RxStream) :=
  match x.listed, x.tail with
  | b :: rest, _ => some (b, { x with listed := rest })
  | [], .ends => none
  | [], .endless k n => some (Config.rxByte k n, { listed := [], tail := .endless k (n + 1) })

/-- A byte put in front of a stream. -/
def RxStream.push (x : RxStream) (b : Byte) : RxStream := { x with listed := b :: x.listed }

/-! ### Single-field writes -/

/-- `rx` with its first byte pulled. -/
def State.setRx (s : State) (rest : RxStream) : State := { s with rx := rest }

/-- The command port with its first words accepted. -/
def State.setCmds (s : State) (words : List CmdWord) : State := { s with cmds := words }

/-- The schedule with its first turn taken. -/
def State.setSched (s : State) (turns : List Turn) : State := { s with sched := turns }

/-- `CPH <- p`. -/
def State.setCph (s : State) (p : Phase) : State := { s with cph := p }

/-- `W <- w; WN <- n`. -/
def State.setWindow (s : State) (w : Frame) (n : BitVec 3) : State := { s with w := w, wn := n }

/-- `WN <- 0` (R160). -/
def State.emptyWindow (s : State) : State := { s with wn := 0#3 }

/-- One more free value drawn (log 5). -/
def State.nextDraw (s : State) : State := { s with draws := s.draws + 1 }

/-! ### Completion and handshakes -/

/-- `Complete(v)`: `RSP <- v; RSPV <- 1; OP <- IDLE` (R104); every other register keeps its value (log 17). -/
def State.complete (s : State) (v : RspWord) : State :=
  { s with rsp := v, rspv := true, op := .idle }

/-- The accept handshake (R101, R102): a command has its effect when `OP == IDLE` and `RSPV == 0`; otherwise it is not
accepted and nothing changes (log 11). -/
def State.accept (s : State) (effect : State → State) : State :=
  if s.busy then s else effect s

/-- The host takes the response: it receives `RSP`, and `RSPV <- 0`; `RSP` keeps its value (R105). -/
def State.takeResponse (s : State) : State :=
  { s with taken := s.taken ++ [s.rsp], rspv := false }

/-- `TxPush(b)` (R53). -/
def State.txPush (s : State) (b : Byte) : State :=
  { s with tx := s.tx ++ [b] }

/-- The window half of `RxStep(b)` (R160): the byte is stored behind the others while `WN < 4`, and shifts the window
when it is full. -/
def State.windowPush (s : State) (b : Byte) : State :=
  if s.wn < 4#3 then s.setWindow (windowSet s.w s.wn b) (s.wn + 1#3)
  else s.setWindow (windowShift s.w b) s.wn

/-- `SV[0] <- 1; SD[0] <- b` (R195). -/
def State.recordSlot0 (s : State) (b : Byte) : State :=
  { s with sv := fillSlot s.sv 0, sd := { s.sd with d0 := b } }

/-- `SV[1] <- 1; SD[1] <- b` (R196). -/
def State.recordSlot1 (s : State) (b : Byte) : State :=
  { s with sv := fillSlot s.sv 1, sd := { s.sd with d1 := b } }

/-- `SV[2] <- 1; SD[2] <- b` (R197). -/
def State.recordSlot2 (s : State) (b : Byte) : State :=
  { s with sv := fillSlot s.sv 2, sd := { s.sd with d2 := b } }

/-- `UNSPEC8` (R200): a byte no rule fixes, drawn afresh (log 5). -/
def State.drawnByte (s : State) : Byte := Config.unspec8 s.draws

/-- Step 3 of COMBINE (R198): `Complete(zext_32(Resolve(SV, SD)))`, the byte of an empty window being a fresh draw
(R200). -/
def State.completeVote (s : State) : State :=
  match resolve s.sv s.sd with
  | some b => s.complete (packByte b)
  | none => (s.complete (packByte s.drawnByte)).nextDraw

/-- The Reset step (R251): the control registers as its pseudocode says; every register it leaves unspecified a fresh
draw (log 4); neither stream moves, no response is delivered. -/
def State.hostReset (s : State) : State :=
  { s with
    op := .idle
    rspv := false
    tcnt := 0#4
    wn := 0#3
    cph := .p0
    sv := 0#3
    w := { b0 := Config.unspec8 s.draws, b1 := Config.unspec8 (s.draws + 1)
           b2 := Config.unspec8 (s.draws + 2), b3 := Config.unspec8 (s.draws + 3) }
    sd := { d0 := Config.unspec8 (s.draws + 4), d1 := Config.unspec8 (s.draws + 5)
            d2 := Config.unspec8 (s.draws + 6) }
    tdata := Config.unspec8 (s.draws + 7)
    taddr := Config.unspec5 s.draws
    localAddr := Config.unspec5 (s.draws + 1)
    rsp := Config.unspec32 s.draws
    draws := s.draws + 8 }

/-- Whether the channel takes a byte (R253): none, or the reason to refuse. -/
def Channel.transmitRefusal : Channel → Option Refusal
  | .closed => some .channelNotOpen
  | .opened true _ => none
  | .opened false _ => some .transmitNotEnabled

/-- Whether the channel yields a byte (R253): none, or the reason to refuse. -/
def Channel.receiveRefusal : Channel → Option Refusal
  | .closed => some .channelNotOpen
  | .opened _ true => none
  | .opened _ false => some .receiveNotEnabled

end Sys2Proof.Machine
end

