-- ==== Sys2Proof/Machine/Commands.lean ====
section
/-! DEFINITION. The command rows: the accept step `CmdAccept(c)`, one arm of R101's case each
(40_command_interface.md R101 to R106). What an accepted ENCODE or receive operation does at its later steps is
Transmit.lean and Frames.lean. -/

namespace Sys2Proof.Machine

/-- NOP (R103): completes in the accept step with `RSP = 0`. -/
def execNop (s : State) : Host.Outcome State Fault Refusal :=
  .next (s.accept fun t => t.complete 0#32)

/-- ENCODE, accept step (R101, R141): `TADDR <- a; TDATA <- d; TCNT <- 0; OP <- ENCODE`. -/
def execEncode (a : Addr) (d : Byte) (s : State) : Host.Outcome State Fault Refusal :=
  .next (s.accept fun t => { t with taddr := a, tdata := d, tcnt := 0#4, op := .encode })

/-- SCAN, accept step (R101): `WN <- 0; OP <- SCAN`. -/
def execScan (s : State) : Host.Outcome State Fault Refusal :=
  .next (s.accept fun t => { t with wn := 0#3, op := .scan })

/-- RECV, accept step (R101): `WN <- 0; OP <- RECV`. -/
def execRecv (s : State) : Host.Outcome State Fault Refusal :=
  .next (s.accept fun t => { t with wn := 0#3, op := .recv })

/-- FILTER, accept step (R101, R176): `LOCAL <- a; WN <- 0; OP <- FILTER`. -/
def execFilter (a : Addr) (s : State) : Host.Outcome State Fault Refusal :=
  .next (s.accept fun t => { t with localAddr := a, wn := 0#3, op := .filter })

/-- COMBINE, accept step (R101, R191): `LOCAL <- a; WN <- 0; SV <- 0b000; CPH <- P0; OP <- COMBINE`. -/
def execCombine (a : Addr) (s : State) : Host.Outcome State Fault Refusal :=
  .next (s.accept fun t => { t with localAddr := a, wn := 0#3, sv := 0#3, cph := .p0, op := .combine })

/-- Opcode 6 (R81, R106, R221): the engine treats it as NOP. DESIGN CHOICE to run it, unsafe, log 7. -/
def execReserved6 (s : State) : Host.Outcome State Fault Refusal :=
  .next (s.accept fun t => t.complete 0#32)

/-- Opcode 7 (R81, R106, R221): the engine treats it as NOP. DESIGN CHOICE to run it, unsafe, log 7. -/
def execReserved7 (s : State) : Host.Outcome State Fault Refusal :=
  .next (s.accept fun t => t.complete 0#32)

end Sys2Proof.Machine
end

