-- ==== Sys2Proof/Machine/Frames.lean ====
section
/-! DEFINITION. The FRAME rows: what a valid frame does to the operation in progress, `FrameAccept(F)`
(43_scanner.md R161), with `FilterAccept` (44_filter.md R179) and `CombineAccept` (45_combiner.md R199). Log 8. -/

namespace Sys2Proof.Machine

/-- `FilterAccept(p)` (R179): complete on the local address (R177), else keep waiting. -/
def State.filterAccept (s : State) (p : Packet) : State :=
  if p.address = s.localAddr then s.complete (packPacket p) else s

/-- `CombineAccept(p)` (R199): a foreign packet is skipped; then the tests for sequence 0, 1, 2, each at most once in an
operation (R195 to R197); then the vote (R198). -/
def State.combineAccept (s : State) (p : Packet) : State :=
  if p.address ≠ s.localAddr ∧ (s.refetchFiltered = true ∨ s.cph = .p0) then s
  else if s.cph = .p0 ∧ p.sequence = 0#3 then
    (s.recordSlot0 p.data).setCph .p1
  else if (s.cph = .p0 ∨ s.cph = .p1) ∧ p.sequence = 1#3 ∧ p.address = s.localAddr then
    (s.recordSlot1 p.data).setCph .p2
  else if p.sequence = 2#3 ∧ p.address = s.localAddr then
    (s.recordSlot2 p.data).completeVote
  else s.completeVote

/-- `WN <- 0` (R160) and `FrameAccept(F)` (R161). With no receive operation in progress no frame is taken and nothing
changes (log 11). -/
def State.frameAccept (s : State) (f : Frame) : State :=
  match s.op with
  | .idle => s
  | .encode => s
  | .scan => s.emptyWindow.complete (packFrame f)
  | .recv => s.emptyWindow.complete (packPacket f.packet)
  | .filter => s.emptyWindow.filterAccept f.packet
  | .combine => s.emptyWindow.combineAccept f.packet

/-- FRAME.SEQ0 (R122, R161, R195). -/
def execFrameSeq0 (a : Addr) (d c : Byte) (s : State) : Host.Outcome State Fault Refusal :=
  .next (s.frameAccept (wireFrame a 0#3 d c))

/-- FRAME.SEQ1 (R122, R161, R196). -/
def execFrameSeq1 (a : Addr) (d c : Byte) (s : State) : Host.Outcome State Fault Refusal :=
  .next (s.frameAccept (wireFrame a 1#3 d c))

/-- FRAME.SEQ2 (R122, R161, R197). -/
def execFrameSeq2 (a : Addr) (d c : Byte) (s : State) : Host.Outcome State Fault Refusal :=
  .next (s.frameAccept (wireFrame a 2#3 d c))

/-- FRAME.SEQ3 (R80, R161): recorded in no slot. -/
def execFrameSeq3 (a : Addr) (d c : Byte) (s : State) : Host.Outcome State Fault Refusal :=
  .next (s.frameAccept (wireFrame a 3#3 d c))

/-- FRAME.SEQ4 (R80, R161): recorded in no slot. -/
def execFrameSeq4 (a : Addr) (d c : Byte) (s : State) : Host.Outcome State Fault Refusal :=
  .next (s.frameAccept (wireFrame a 4#3 d c))

/-- FRAME.SEQ5 (R80, R161): recorded in no slot. -/
def execFrameSeq5 (a : Addr) (d c : Byte) (s : State) : Host.Outcome State Fault Refusal :=
  .next (s.frameAccept (wireFrame a 5#3 d c))

/-- FRAME.SEQ6 (R80, R161): recorded in no slot. -/
def execFrameSeq6 (a : Addr) (d c : Byte) (s : State) : Host.Outcome State Fault Refusal :=
  .next (s.frameAccept (wireFrame a 6#3 d c))

/-- FRAME.SEQ7 (R80, R161): recorded in no slot. -/
def execFrameSeq7 (a : Addr) (d c : Byte) (s : State) : Host.Outcome State Fault Refusal :=
  .next (s.frameAccept (wireFrame a 7#3 d c))

end Sys2Proof.Machine
end

