-- ==== Sys2Proof/Machine/Dispatch.lean ====
section
/-! DEFINITION. One arm for each row of the opcode table: the instruction's meaning. -/

namespace Sys2Proof.Machine

def exec (i : Instr) (s : State) : Host.Outcome State Fault Refusal :=
  match i with
  | .frameSeq0 a d c => Sys2Proof.Machine.execFrameSeq0 a d c s
  | .frameSeq1 a d c => Sys2Proof.Machine.execFrameSeq1 a d c s
  | .frameSeq2 a d c => Sys2Proof.Machine.execFrameSeq2 a d c s
  | .frameSeq3 a d c => Sys2Proof.Machine.execFrameSeq3 a d c s
  | .frameSeq4 a d c => Sys2Proof.Machine.execFrameSeq4 a d c s
  | .frameSeq5 a d c => Sys2Proof.Machine.execFrameSeq5 a d c s
  | .frameSeq6 a d c => Sys2Proof.Machine.execFrameSeq6 a d c s
  | .frameSeq7 a d c => Sys2Proof.Machine.execFrameSeq7 a d c s
  | .nop => Sys2Proof.Machine.execNop s
  | .encode a d => Sys2Proof.Machine.execEncode a d s
  | .scan => Sys2Proof.Machine.execScan s
  | .recv => Sys2Proof.Machine.execRecv s
  | .filter a => Sys2Proof.Machine.execFilter a s
  | .combine a => Sys2Proof.Machine.execCombine a s
  | .reserved6 => Sys2Proof.Machine.execReserved6 s
  | .reserved7 => Sys2Proof.Machine.execReserved7 s

end Sys2Proof.Machine
end

