-- ==== Sys2Proof/Machine/Transmit.lean ====
section
/-! DEFINITION. `TxStep` (42_encoder.md R142): the per-byte step of an ENCODE in progress. -/

namespace Sys2Proof.Machine

/-- `TxStep` (R142): push the byte `TCNT` names, then complete after the twelfth, else count on. -/
def State.txStep (s : State) : State :=
  let t := s.txPush (encByte s.taddr s.tdata s.tcnt)
  if s.tcnt = Config.lastTx then t.complete 0#32 else { t with tcnt := s.tcnt + 1#4 }

end Sys2Proof.Machine
end

