-- ==== Sys2Proof/Machine/Fetch.lean ====
section
/-! DEFINITION. Which step is enabled (10_state.md R35) and what it does up to the instruction it runs, if it runs one:
a command word offered (40_command_interface.md R101), a byte pulled that completes a valid window (43_scanner.md
R160). Also where the next instruction is fetched from, for placing one there (log 9). -/

namespace Sys2Proof.Machine

/-- What the fetch half of a step finds. -/
inductive Fetched where
  /-- An instruction to run, and the state it runs in. -/
  | run (i : Instr) (s : State)
  /-- A step without an instruction, and the state after it. -/
  | advance (s : State)
  /-- A step the model gives no outcome. -/
  | refuse (r : Refusal)

/-- `RxStep(b)` (R160) up to the accepted frame: one byte is pulled into the window; a full window is decoded, and
one that is no frame is kept (R156). With no byte to pull the operation is blocked and nothing changes (R158, log 2). -/
def State.fetchByte (s : State) : Fetched :=
  match s.rx.pull with
  | none => .advance s
  | some (b, rest) =>
    match s.channel.receiveRefusal with
    | some r => .refuse r
    | none =>
      let t := (s.setRx rest).windowPush b
      if t.wn = 4#3 then
        match decodeFrame t.w with
        | .ok i => .run i t
        | .error _ => .advance t
      else .advance t

/-- The step when host and channel are ready (R35): RspTake or CmdAccept when idle, TxStep in an ENCODE, RxStep in a
receive operation. A quiescent engine with no command offered stays as it is (R262, log 2). -/
def State.fetchReady (s : State) : Fetched :=
  match s.op with
  | .idle =>
    if s.rspv then .advance s.takeResponse
    else
      match s.cmds with
      | [] => .advance s
      | c :: rest => .run (decodeCommand c) (s.setCmds rest)
  | .encode =>
    match s.channel.transmitRefusal with
    | some r => .refuse r
    | none => .advance s.txStep
  | .scan => s.fetchByte
  | .recv => s.fetchByte
  | .filter => s.fetchByte
  | .combine => s.fetchByte

/-- One step's fetch: the turn of host and channel first (log 1). A reset wins over any other step (60_exceptions.md
R224); opening the channel is done once (70_reset_and_hazards.md R253). -/
def State.fetch (s : State) : Fetched :=
  match s.sched with
  | [] => s.fetchReady
  | .ready :: turns => (s.setSched turns).fetchReady
  | .wait :: turns => .advance (s.setSched turns)
  | .reset :: turns => .advance (s.setSched turns).hostReset
  | .openChannel tx rx :: turns =>
    match s.channel with
    | .closed => .advance { s with sched := turns, channel := .opened tx rx }
    | .opened _ _ => .refuse .channelAlreadyOpen

/-- The state whose next step accepts the command word `c` (log 9). -/
def State.placeCommand (s : State) (c : CmdWord) : State :=
  { s with op := .idle, rspv := false, cmds := c :: s.cmds, sched := .ready :: s.sched }

/-- The operation that will take a placed frame: the one in progress if it receives, else RECV (log 9). -/
def Op.orRecv (o : Op) : Op := if o.receives then o else .recv

/-- The channel with its receive direction enabled (log 9). -/
def Channel.enableReceive : Channel → Channel
  | .closed => .opened false true
  | .opened tx _ => .opened tx true

/-- The state whose next step pulls the last byte of the frame `f`, the first three being in the window (log 9). -/
def State.placeFrame (s : State) (f : Frame) : State :=
  { s with
    op := s.op.orRecv
    rspv := false
    wn := 3#3
    w := { f with b3 := s.w.b3 }
    rx := s.rx.push f.b3
    channel := s.channel.enableReceive
    sched := .ready :: s.sched }

end Sys2Proof.Machine
end

