-- ==== Sys2Proof/Machine/Step.lean ====
section
/-! DEFINITION. One step of the machine (10_state.md R35). -/

namespace Sys2Proof.Machine

/-- The outcome of what was fetched: an instruction is run. -/
def Fetched.outcome : Fetched → Host.Outcome State Fault Refusal
  | .run i t => exec i t
  | .advance t => .next t
  | .refuse r => .refused r

/-- One step: what is fetched is run. -/
def step (s : State) : Host.Outcome State Fault Refusal := s.fetch.outcome

/-- `s` with the table word `w` placed where the next step fetches its instruction: a 16-bit word on the command port,
a 32-bit word in the scan window and the receive stream (log 9). -/
def State.withFetchWord (s : State) (nbits w : Nat) : State :=
  if nbits = 16 then s.placeCommand (BitVec.ofNat 16 w)
  else s.placeFrame (frameOfWord (BitVec.ofNat 32 w))

end Sys2Proof.Machine
end

