-- ==== Sys2Proof/Machine/Stream.lean ====
section
/-! DEFINITION. Every operation as a function of the streams (00_scope.md R12): the contracts the source states, which
the per-byte steps of Transmit.lean, Frames.lean and Fetch.lean implement. None means blocked: no result, every byte
consumed (43_scanner.md R157, R158). A stream function is given the stream by its beginnings: it looks at no byte behind
those it consumes, so its value on a beginning that has one is its value on every longer beginning, and on the stream,
endless or not. -/

namespace Sys2Proof.Machine

/-- The first `n` bytes of a receive stream, fewer if it ends before (20_memory.md R51). -/
def RxStream.first : Nat → RxStream → List Byte
  | 0, _ => []
  | n + 1, x =>
    match x.pull with
    | none => []
    | some (b, rest) => b :: rest.first n

/-- A receive stream with `n` bytes pulled, fewer if it ends before. -/
def RxStream.drop : Nat → RxStream → RxStream
  | 0, x => x
  | n + 1, x =>
    match x.pull with
    | none => x
    | some (_, rest) => rest.drop n

/-- The bytes of a frame in wire order (R55). -/
def frameBytes (f : Frame) : List Byte := [f.b0, f.b1, f.b2, f.b3]

/-- The 12 bytes `Encode(a, d, tx)` appends to `tx` (42_encoder.md R140). -/
def streamEncode (a : Addr) (d : Byte) : List Byte :=
  frameBytes (encodeFrame a 0#3 d) ++ frameBytes (encodeFrame a 1#3 d) ++ frameBytes (encodeFrame a 2#3 d)

/-- `Scan(s)` (R156, R157): the first valid window and the stream behind it. -/
def streamScan : List Byte → Option (Frame × List Byte)
  | b0 :: b1 :: b2 :: b3 :: rest =>
    if Frame.valid { b0 := b0, b1 := b1, b2 := b2, b3 := b3 } then
      some ({ b0 := b0, b1 := b1, b2 := b2, b3 := b3 }, rest)
    else streamScan (b1 :: b2 :: b3 :: rest)
  | _ => none

/-- `Recv(s) = (Decode(F), s')` where `(F, s') = Scan(s)` (R162). -/
def streamRecv (s : List Byte) : Option (Packet × List Byte) :=
  match streamScan s with
  | some (f, rest) => some (f.packet, rest)
  | none => none

/-- `Filter(a, s)` (44_filter.md R178) with at most `n` packets pulled. -/
def streamFilterWithin : Nat → Addr → List Byte → Option (Packet × List Byte)
  | 0, _, _ => none
  | n + 1, a, s =>
    match streamRecv s with
    | some (p, rest) => if p.address = a then some (p, rest) else streamFilterWithin n a rest
    | none => none

/-- `Filter(a, s)` (R178). A stream holds no more packets than bytes, so the bound cuts nothing off. -/
def streamFilter (a : Addr) (s : List Byte) : Option (Packet × List Byte) :=
  streamFilterWithin (s.length + 1) a s

/-- `Fetch2(a, s)` (45_combiner.md R194), under either value of `REFETCH_FILTERED`. -/
def streamFetch2 (refetchFiltered : Bool) (a : Addr) (s : List Byte) : Option (Packet × List Byte) :=
  if refetchFiltered then streamFilter a s else streamRecv s

/-- The vote window while `Combine(a, s)` runs (R193): the slots, the current packet, the stream that is left. -/
structure VoteRun where
  sv : BitVec 3
  sd : SlotData
  cur : Packet
  rest : List Byte
deriving DecidableEq, Repr

/-- The first test of R193 (R195): it looks at the sequence only. -/
def voteTest0 (refetchFiltered : Bool) (a : Addr) (v : VoteRun) : Option VoteRun :=
  if v.cur.sequence = 0#3 then
    match streamFetch2 refetchFiltered a v.rest with
    | some (p, rest) =>
      some { sv := fillSlot v.sv 0, sd := { v.sd with d0 := v.cur.data }, cur := p, rest := rest }
    | none => none
  else some v

/-- The second test of R193 (R196). -/
def voteTest1 (refetchFiltered : Bool) (a : Addr) (v : VoteRun) : Option VoteRun :=
  if v.cur.sequence = 1#3 ∧ v.cur.address = a then
    match streamFetch2 refetchFiltered a v.rest with
    | some (p, rest) =>
      some { sv := fillSlot v.sv 1, sd := { v.sd with d1 := v.cur.data }, cur := p, rest := rest }
    | none => none
  else some v

/-- The third test of R193 (R197): no further fetch. -/
def voteTest2 (a : Addr) (v : VoteRun) : VoteRun :=
  if v.cur.sequence = 2#3 ∧ v.cur.address = a then
    { v with sv := fillSlot v.sv 2, sd := { v.sd with d2 := v.cur.data } }
  else v

/-- `Combine(a, s)` (R193) up to the vote: the slots to resolve and the stream that is left. `sd` is what the slots'
data registers held before; no rule reads it (R34). -/
def streamCombine (refetchFiltered : Bool) (a : Addr) (sd : SlotData) (s : List Byte) : Option VoteRun :=
  match streamFilter a s with
  | none => none
  | some (p0, rest) =>
    match voteTest0 refetchFiltered a { sv := 0#3, sd := sd, cur := p0, rest := rest } with
    | none => none
    | some v =>
      match voteTest1 refetchFiltered a v with
      | none => none
      | some v' => some (voteTest2 a v')

end Sys2Proof.Machine
end

