-- ==== Sys2Proof/Safety.lean ====
section
/-! DEFINITION. What claims about runs are stated in: when a run has ended, is blocked or waits for the host
(70_reset_and_hazards.md R262), the invariants of 10_state.md R38, which registers hold a value that any later step
can read (R34, R36), and the words software may issue (30_encoding.md R81). -/

namespace Sys2Proof.Machine

/-- `n` steps one after the other; none when one of them answers no next state. -/
def runSteps : Nat → State → Option State
  | 0, s => some s
  | n + 1, s =>
    match step s with
    | .next t => runSteps n t
    | .fault _ => none
    | .refused _ => none

/-- Quiescent (R262). -/
def State.quiescent (s : State) : Prop := s.op = .idle ∧ s.rspv = false

/-- The run has ended: quiescent and the host has no further command (R262). -/
def State.ended (s : State) : Prop := s.quiescent ∧ s.cmds = []

/-- Blocked, not ended: a receive operation with no byte to pull (R158, R262). -/
def State.blocked (s : State) : Prop := s.op.receives = true ∧ s.rx.pull = none

/-- Waiting for the host to take the response (R262). -/
def State.awaitsHost (s : State) : Prop := s.op = .idle ∧ s.rspv = true

/-- Host and channel are ready from here on: no turn is left that says otherwise (log 1). -/
def State.hostReady (s : State) : Prop := s.sched = []

/-- Host and channel are ready at this step, and `turns` is what is left of the schedule behind it (log 1). -/
def State.readyThen (s : State) (turns : List Turn) : Prop :=
  (s.sched = [] ∧ turns = []) ∨ s.sched = .ready :: turns

/-- A command can be accepted: `OP == IDLE` and `RSPV == 0` (R101). -/
def State.accepts (s : State) : Prop := s.op = .idle ∧ s.rspv = false

/-- The vote window of a COMBINE at its phase (R38 item 4). -/
def Phase.windowFits (p : Phase) (sv : BitVec 3) : Prop :=
  match p with
  | .p0 => sv = 0#3
  | .p1 => sv = 1#3
  | .p2 => slotFilled sv 1 = true ∧ slotFilled sv 2 = false

/-- The invariants of R38 that speak of one state: item 1 (for ENCODE too, which leaves `WN` alone), items 2 and 3, item 4,
and item 6 (a full window in a receive operation is not valid). -/
structure State.Inv (s : State) : Prop where
  emptyWindow : s.op.receives = false → s.wn = 0#3
  responseIdle : s.rspv = true → s.op = .idle
  windowCount : s.wn.toNat ≤ 4
  transmitCount : s.tcnt.toNat ≤ 11
  voteWindow : s.op = .combine → s.cph.windowFits s.sv
  notValid : s.op.receives = true → s.wn = 4#3 → s.w.valid = false

/-- Window bytes that hold a value agree: those below `WN` (R22). -/
def windowAgrees (n : BitVec 3) (w v : Frame) : Prop :=
  (0 < n.toNat → w.b0 = v.b0) ∧ (1 < n.toNat → w.b1 = v.b1) ∧
  (2 < n.toNat → w.b2 = v.b2) ∧ (3 < n.toNat → w.b3 = v.b3)

/-- Slots that hold a value agree: those whose `SV` bit is set (R23). -/
def slotsAgree (sv : BitVec 3) (x y : SlotData) : Prop :=
  (slotFilled sv 0 = true → x.d0 = y.d0) ∧ (slotFilled sv 1 = true → x.d1 = y.d1) ∧
  (slotFilled sv 2 = true → x.d2 = y.d2)

/-- Two states that differ at most in registers which hold no value any rule reads (R34, R36): window bytes at or above
`WN`, empty slots, the operands and counters of operations that are not in progress, a response already taken. -/
structure State.sameLive (s t : State) : Prop where
  op : s.op = t.op
  rspv : s.rspv = t.rspv
  wn : s.op.receives = true → s.wn = t.wn
  window : s.op.receives = true → windowAgrees s.wn s.w t.w
  transmit : s.op = .encode → s.taddr = t.taddr ∧ s.tdata = t.tdata ∧ s.tcnt = t.tcnt
  localAddr : s.op = .filter ∨ s.op = .combine → s.localAddr = t.localAddr
  vote : s.op = .combine → s.cph = t.cph ∧ s.sv = t.sv ∧ slotsAgree s.sv s.sd t.sd
  rsp : s.rspv = true → s.rsp = t.rsp
  streams : s.rx = t.rx ∧ s.tx = t.tx
  ports : s.cmds = t.cmds ∧ s.taken = t.taken
  environment : s.channel = t.channel ∧ s.sched = t.sched ∧ s.refetchFiltered = t.refetchFiltered ∧ s.draws = t.draws

/-- Software must not issue a reserved command word (R81). -/
def softwareMayIssue (c : CmdWord) : Bool :=
  decide (decodeCommand c ≠ .reserved6) && decide (decodeCommand c ≠ .reserved7)

end Sys2Proof.Machine
end

