-- ==== Sys2Proof/Certificates/Slice0/Obligations.lean ====
section
/-! DEFINITION. The statements for the provers. Each docstring names the rule it formalises, or, for a statement that
rests on a choice of the model, the log entry. `REFETCH_FILTERED` and the schedule are fields of State: a statement
about every state holds for every value of them unless it says otherwise. -/

open Sys2Proof Sys2Proof.Machine

/-! ### Encodings -/

/-- Decode and encode agree on every well-formed instruction (30_encoding.md R76, R86): all 16 rows, every operand. -/
def Obligations.DecodeEncodeRoundTrip : Prop :=
  ∀ i : Instr, i.wellFormed = true → decode (encode i) = .ok i

/-- The other direction for frames (30_encoding.md R86, 41_frame_functions.md R127 item 3): what four bytes decode to is
well formed and is encoded as these four bytes. No bit of a frame is dropped. -/
def Obligations.FrameDecodingLosesNoBit : Prop :=
  ∀ (f : Frame) (i : Instr), decode (.frame f) = .ok i → i.wellFormed = true ∧ encode i = .frame f

/-- R120: `Valid(F)` is `F0 == 0xAA` and `F3 == F1 XOR F2`, and nothing else; the decoder takes exactly the valid
windows and rejects the others by name. -/
def Obligations.DecoderTakesExactlyValidFrames : Prop :=
  ∀ f : Frame,
    (f.valid = true ↔ f.b0 = 0xAA#8 ∧ f.b3 = f.b1 ^^^ f.b2) ∧
    (f.valid = true ↔ ∃ i, decode (.frame f) = .ok i) ∧
    (f.b0 ≠ 0xAA#8 → decode (.frame f) = .error .badSync) ∧
    (f.b0 = 0xAA#8 → f.b3 ≠ f.b1 ^^^ f.b2 → decode (.frame f) = .error .badChecksum)

/-- R76: the opcode is `CMD[15:13]`, the address `CMD[12:8]`, the data `CMD[7:0]`; the other bits of a row are
ignored. Opcodes 6 and 7 are the reserved rows (log 7). -/
def Obligations.CommandWordFields : Prop :=
  ∀ c : CmdWord,
    (c.extractLsb' 13 3 = 0#3 → decodeCommand c = .nop) ∧
    (c.extractLsb' 13 3 = 1#3 → decodeCommand c = .encode (c.extractLsb' 8 5) (c.extractLsb' 0 8)) ∧
    (c.extractLsb' 13 3 = 2#3 → decodeCommand c = .scan) ∧
    (c.extractLsb' 13 3 = 3#3 → decodeCommand c = .recv) ∧
    (c.extractLsb' 13 3 = 4#3 → decodeCommand c = .filter (c.extractLsb' 8 5)) ∧
    (c.extractLsb' 13 3 = 5#3 → decodeCommand c = .combine (c.extractLsb' 8 5)) ∧
    (c.extractLsb' 13 3 = 6#3 → decodeCommand c = .reserved6) ∧
    (c.extractLsb' 13 3 = 7#3 → decodeCommand c = .reserved7)

/-- Words written out from the spec's encodings (95_test_vectors.md sections 2 and 8; 30_encoding.md R70, R76, R86): six
decode to the instruction they stand for, and the seventh, V2.11's bytes, to none (R120). That a 32-bit word has offset 0
in bits 31:24 is log 10 (DESIGN CHOICE, after R86). -/
def Obligations.SpecWordsDecode : Prop :=
  decodeTableWord 16 0x0000 = some .nop ∧
  decodeTableWord 16 0x232A = some (.encode 3#5 42#8) ∧
  decodeTableWord 16 0x7ABC = some .recv ∧
  decodeTableWord 16 0x83FF = some (.filter 3#5) ∧
  decodeTableWord 16 0xB500 = some (.combine 21#5) ∧
  decodeTableWord 32 0xAA182A32 = some (.frameSeq0 3#5 42#8 0x32#8) ∧
  decodeTableWord 32 0xAA182A33 = none

/-- R147: an operand out of range is refused, never reduced: a line of the notation has a command word and names an
instruction exactly when its address is at most 31 and its data at most 255 (log 16). -/
def Obligations.NotationRefusesOutOfRange : Prop :=
  (∀ a d : Nat, assemble (.encode a d) = none ↔ 31 < a ∨ 255 < d) ∧
  (∀ a : Nat, assemble (.filter a) = none ↔ 31 < a) ∧
  (∀ a : Nat, assemble (.combine a) = none ↔ 31 < a) ∧
  (∃ c, assemble .nop = some c) ∧ (∃ c, assemble .scan = some c) ∧ (∃ c, assemble .recv = some c) ∧
  ∀ p : Notation, p.toInstr = none ↔ assemble p = none

/-- R84, R76: a line of the notation that has a command word names an instruction, and the word decodes to it and is its
encoding. -/
def Obligations.NotationAssemblesToItsInstruction : Prop :=
  ∀ (p : Notation) (c : CmdWord), assemble p = some c →
    ∃ i, p.toInstr = some i ∧ decodeCommand c = i ∧ encode i = .command c

/-! ### The pure functions -/

/-- R127: the four identities of EncodeFrame, Decode and Valid, for every sequence value 0 to 7. -/
def Obligations.FrameFunctionIdentities : Prop :=
  (∀ (a : Addr) (q : Seq) (d : Byte), (encodeFrame a q d).valid = true) ∧
  (∀ (a : Addr) (q : Seq) (d : Byte), (encodeFrame a q d).packet = { address := a, sequence := q, data := d }) ∧
  (∀ f : Frame, f.valid = true → encodeFrame f.packet.address f.packet.sequence f.packet.data = f) ∧
  (∀ f : Frame, f.valid = true → f.b1 = f.b2 ^^^ f.b3 ∧ f.b2 = f.b1 ^^^ f.b3 ∧ f.b3 = f.b1 ^^^ f.b2)

/-- R128, its first two sentences: a valid frame received with the error patterns `e0` to `e3` is valid if and only if
`e0 = 0` and `e1 XOR e2 XOR e3 = 0`; so corruption confined to one byte is detected. -/
def Obligations.ChecksumDetection : Prop :=
  ∀ (f : Frame) (e0 e1 e2 e3 : Byte), f.valid = true →
    ((Frame.valid { b0 := f.b0 ^^^ e0, b1 := f.b1 ^^^ e1, b2 := f.b2 ^^^ e2, b3 := f.b3 ^^^ e3 } = true ↔
        e0 = 0#8 ∧ e1 ^^^ e2 ^^^ e3 = 0#8) ∧
      (e0 ≠ 0#8 → Frame.valid { b0 := f.b0 ^^^ e0, b1 := f.b1, b2 := f.b2, b3 := f.b3 } = false) ∧
      (e1 ≠ 0#8 → Frame.valid { b0 := f.b0, b1 := f.b1 ^^^ e1, b2 := f.b2, b3 := f.b3 } = false) ∧
      (e2 ≠ 0#8 → Frame.valid { b0 := f.b0, b1 := f.b1, b2 := f.b2 ^^^ e2, b3 := f.b3 } = false) ∧
      (e3 ≠ 0#8 → Frame.valid { b0 := f.b0, b1 := f.b1, b2 := f.b2, b3 := f.b3 ^^^ e3 } = false))

/-- R125: with all slots filled the majority, slot 0 if all differ; slot 0 whenever it is filled and the window is not
full; slot 1, else slot 2, without it; always the content of a filled slot unless the window is empty. -/
def Obligations.ResolveProperties : Prop :=
  ∀ (sv : BitVec 3) (sd : SlotData),
    (sv = 7#3 →
      (sd.d1 = sd.d2 → resolve sv sd = some sd.d1) ∧ (sd.d0 = sd.d1 → resolve sv sd = some sd.d0) ∧
      (sd.d0 = sd.d2 → resolve sv sd = some sd.d0) ∧
      (sd.d0 ≠ sd.d1 → sd.d1 ≠ sd.d2 → sd.d0 ≠ sd.d2 → resolve sv sd = some sd.d0)) ∧
    (slotFilled sv 0 = true → sv ≠ 7#3 → resolve sv sd = some sd.d0) ∧
    (slotFilled sv 0 = false → slotFilled sv 1 = true → resolve sv sd = some sd.d1) ∧
    (slotFilled sv 0 = false → slotFilled sv 1 = false → slotFilled sv 2 = true → resolve sv sd = some sd.d2) ∧
    (sv ≠ 0#3 → ∃ b, resolve sv sd = some b ∧
      (slotFilled sv 0 = true ∧ b = sd.d0 ∨ slotFilled sv 1 = true ∧ b = sd.d1 ∨ slotFilled sv 2 = true ∧ b = sd.d2))

/-- R129: `EncByte(a, d, n)` is byte `n` of the 12-byte expansion of one logical packet, for every `n` in 0 to 11. -/
def Obligations.EncByteIndexesTheExpansion : Prop :=
  ∀ (a : Addr) (d : Byte) (n : BitVec 4), n.toNat ≤ 11 →
    (streamEncode a d).length = 12 ∧ (streamEncode a d)[n.toNat]? = some (encByte a d n)

/-! ### Commands: the accept step -/

/-- R101: what each command does when it is accepted, every other register, both streams and both ports unchanged. The
arm of opcodes 6 and 7 is `Complete(0)` (run by the model, log 7). -/
def Obligations.CommandsAccepted : Prop :=
  ∀ s : State, s.accepts →
    exec .nop s = .next { s with rsp := 0#32, rspv := true, op := .idle } ∧
    (∀ (a : Addr) (d : Byte),
      exec (.encode a d) s = .next { s with taddr := a, tdata := d, tcnt := 0#4, op := .encode }) ∧
    exec .scan s = .next { s with wn := 0#3, op := .scan } ∧
    exec .recv s = .next { s with wn := 0#3, op := .recv } ∧
    (∀ a : Addr, exec (.filter a) s = .next { s with localAddr := a, wn := 0#3, op := .filter }) ∧
    (∀ a : Addr, exec (.combine a) s =
      .next { s with localAddr := a, wn := 0#3, sv := 0#3, cph := .p0, op := .combine }) ∧
    exec .reserved6 s = .next { s with rsp := 0#32, rspv := true, op := .idle } ∧
    exec .reserved7 s = .next { s with rsp := 0#32, rspv := true, op := .idle }

/-- R101 as a step: the word `c` the host offers to an engine that accepts is taken, and its bits 15:13 select the effect,
its bits 12:8 and 7:0 being the operands. Every other register and both streams stay as they are. The clause on opcodes 6
and 7 is R101's last arm; that the model runs them instead of refusing the word is its choice (log 7). `turns` is what is
left of the schedule (log 1). -/
def Obligations.CmdAcceptByOpcode : Prop :=
  ∀ (s : State) (c : CmdWord) (rest : List CmdWord) (turns : List Turn),
    s.accepts → s.readyThen turns → s.cmds = c :: rest →
    (c.extractLsb' 13 3 = 0#3 →
      step s = .next { s with cmds := rest, rsp := 0#32, rspv := true, op := .idle, sched := turns }) ∧
    (c.extractLsb' 13 3 = 1#3 → step s =
      .next { s with
        cmds := rest, taddr := c.extractLsb' 8 5, tdata := c.extractLsb' 0 8, tcnt := 0#4, op := .encode
        sched := turns }) ∧
    (c.extractLsb' 13 3 = 2#3 → step s = .next { s with cmds := rest, wn := 0#3, op := .scan, sched := turns }) ∧
    (c.extractLsb' 13 3 = 3#3 → step s = .next { s with cmds := rest, wn := 0#3, op := .recv, sched := turns }) ∧
    (c.extractLsb' 13 3 = 4#3 → step s =
      .next { s with cmds := rest, localAddr := c.extractLsb' 8 5, wn := 0#3, op := .filter, sched := turns }) ∧
    (c.extractLsb' 13 3 = 5#3 → step s =
      .next { s with
        cmds := rest, localAddr := c.extractLsb' 8 5, wn := 0#3, sv := 0#3, cph := .p0, op := .combine
        sched := turns }) ∧
    (c.extractLsb' 13 3 = 6#3 ∨ c.extractLsb' 13 3 = 7#3 →
      step s = .next { s with cmds := rest, rsp := 0#32, rspv := true, op := .idle, sched := turns })

/-- R102: while `OP != IDLE` or `RSPV == 1` no command is accepted: no step takes a word off the command port. That exec
of a command row then answers the unchanged state is the model's choice (log 11; for the two reserved rows also log 7). -/
def Obligations.NoCommandAcceptedWhileBusy : Prop :=
  ∀ s : State, s.op ≠ .idle ∨ s.rspv = true →
    (∀ t, step s = .next t → t.cmds = s.cmds) ∧
    (∀ (a : Addr) (d : Byte),
      exec .nop s = .next s ∧ exec (.encode a d) s = .next s ∧ exec .scan s = .next s ∧ exec .recv s = .next s ∧
      exec (.filter a) s = .next s ∧ exec (.combine a) s = .next s ∧ exec .reserved6 s = .next s ∧
      exec .reserved7 s = .next s)

/-! ### Frames: FrameAccept -/

/-- The eight FRAME rows with the sequence value of each. -/
def frameRows (a : Addr) (d c : Byte) : List (Seq × Instr) :=
  [(0#3, .frameSeq0 a d c), (1#3, .frameSeq1 a d c), (2#3, .frameSeq2 a d c), (3#3, .frameSeq3 a d c),
   (4#3, .frameSeq4 a d c), (5#3, .frameSeq5 a d c), (6#3, .frameSeq6 a d c), (7#3, .frameSeq7 a d c)]

/-- R161 and the rows SCAN and RECV of R77: a frame completes a SCAN with its four bytes and a RECV with its packet, each
of the eight FRAME rows (frameSeq0 to frameSeq7); the window is emptied and nothing else changes. -/
def Obligations.FramesCompleteScanAndRecv : Prop :=
  ∀ (s : State) (a : Addr) (d c : Byte) (q : Seq) (i : Instr), (q, i) ∈ frameRows a d c →
    (s.op = .scan →
      exec i s = .next { s with wn := 0#3, rsp := ((0xAA#8 ++ (a ++ q)) ++ d) ++ c, rspv := true, op := .idle }) ∧
    (s.op = .recv →
      exec i s = .next { s with wn := 0#3, rsp := ((0#16 ++ (a ++ q)) ++ d), rspv := true, op := .idle })

/-- R179, R177: a frame for the local address completes a FILTER with its packet; any other frame leaves it waiting with
an empty window. Each of the eight FRAME rows: the sequence is not examined (R182). -/
def Obligations.FilterComparesTheAddress : Prop :=
  ∀ (s : State) (a : Addr) (d c : Byte) (q : Seq) (i : Instr), (q, i) ∈ frameRows a d c → s.op = .filter →
    (a = s.localAddr →
      exec i s = .next { s with wn := 0#3, rsp := ((0#16 ++ (a ++ q)) ++ d), rspv := true, op := .idle }) ∧
    (a ≠ s.localAddr → exec i s = .next { s with wn := 0#3 })

/-- R195: the first test of a COMBINE: FRAME.SEQ0 for the local address as the first packet fills slot 0 and the
operation waits for a further packet. -/
def Obligations.CombineFirstTest : Prop :=
  ∀ (s : State) (d c : Byte), s.op = .combine → s.cph = .p0 →
    exec (.frameSeq0 s.localAddr d c) s =
      .next { s with wn := 0#3, sv := s.sv ||| 1#3, sd := { s.sd with d0 := d }, cph := .p1 }

/-- R196: the second test: FRAME.SEQ1 for the local address as the first packet, or as the one fetched after slot 0,
fills slot 1 and the operation waits for a further packet. -/
def Obligations.CombineSecondTest : Prop :=
  ∀ (s : State) (d c : Byte), s.op = .combine → s.cph = .p0 ∨ s.cph = .p1 →
    exec (.frameSeq1 s.localAddr d c) s =
      .next { s with wn := 0#3, sv := s.sv ||| 2#3, sd := { s.sd with d1 := d }, cph := .p2 }

/-- R197, R198: the third test: FRAME.SEQ2 for the local address, in any phase, fills slot 2, no further packet is
fetched, and the operation completes in the same step with the resolved byte. -/
def Obligations.CombineThirdTest : Prop :=
  ∀ (s : State) (d c : Byte), s.op = .combine →
    ∃ b, resolve (s.sv ||| 4#3) { s.sd with d2 := d } = some b ∧
      exec (.frameSeq2 s.localAddr d c) s =
        .next { s with
          wn := 0#3, sv := s.sv ||| 4#3, sd := { s.sd with d2 := d }
          rsp := 0#24 ++ b, rspv := true, op := .idle }

/-- R199: each test is made once. A frame for the local address that no test still to come takes (sequence 0 after the
first test, sequence 1 after the second, sequence 3 to 7 at any time: all FRAME rows but frameSeq2) is recorded
nowhere and completes the operation with the vote over the slots filled so far, of which there is at least one. -/
def Obligations.CombineClosesOnUnrecordedPacket : Prop :=
  ∀ (s : State) (a : Addr) (d c : Byte) (q : Seq) (i : Instr) (b : Byte), (q, i) ∈ frameRows a d c →
    s.op = .combine → a = s.localAddr → resolve s.sv s.sd = some b →
    (q = 0#3 ∧ s.cph ≠ .p0 ∨ q = 1#3 ∧ s.cph = .p2 ∨ 3 ≤ q.toNat) →
    exec i s = .next { s with wn := 0#3, rsp := 0#24 ++ b, rspv := true, op := .idle }

/-- R200: on an empty vote window the operation completes, `RSP[31:8]` is 0, `RSP[7:0]` is some byte of which nothing is
said, and no other register is affected. FRAME.SEQ3 to FRAME.SEQ7 as the first packet are how it comes about (R80).
The draw counter is the model's own (log 5). -/
def Obligations.CombineEmptyWindowCompletes : Prop :=
  ∀ (s : State) (d c : Byte) (i : Instr), s.op = .combine → s.sv = 0#3 →
    i ∈ [Instr.frameSeq3 s.localAddr d c, .frameSeq4 s.localAddr d c, .frameSeq5 s.localAddr d c,
      .frameSeq6 s.localAddr d c, .frameSeq7 s.localAddr d c] →
    ∃ b : Byte, exec i s =
      .next { s with wn := 0#3, rsp := 0#24 ++ b, rspv := true, op := .idle, draws := s.draws + 1 }

/-- R199, R202: a frame for another address (any of the eight FRAME rows) is skipped by a COMBINE, with
`REFETCH_FILTERED` true or while the first packet is awaited: only the window is emptied. -/
def Obligations.CombineSkipsForeignFrames : Prop :=
  ∀ (s : State) (a : Addr) (d c : Byte) (q : Seq) (i : Instr), (q, i) ∈ frameRows a d c →
    s.op = .combine → a ≠ s.localAddr → s.refetchFiltered = true ∨ s.cph = .p0 →
    exec i s = .next { s with wn := 0#3 }

/-- R203: with `REFETCH_FILTERED` false a frame for another address that arrives after slot 0 or slot 1 was recorded ends
the window: nothing more is recorded and the operation completes with what it has. -/
def Obligations.CombineForeignFrameEndsUnfilteredVote : Prop :=
  ∀ (s : State) (a : Addr) (d c : Byte) (q : Seq) (i : Instr) (b : Byte), (q, i) ∈ frameRows a d c →
    s.op = .combine → a ≠ s.localAddr → s.refetchFiltered = false → s.cph ≠ .p0 → resolve s.sv s.sd = some b →
    exec i s = .next { s with wn := 0#3, rsp := 0#24 ++ b, rspv := true, op := .idle }

/-! ### Steps -/

/-- A step runs the decoded instruction, commands: the word offered to an engine that accepts is taken off the command
port and its instruction is run (R101). `turns` is what is left of the schedule (log 1). -/
def Obligations.StepRunsOfferedCommand : Prop :=
  ∀ (s : State) (c : CmdWord) (rest : List CmdWord) (i : Instr) (turns : List Turn),
    s.accepts → s.readyThen turns → s.cmds = c :: rest → decode (.command c) = .ok i →
    step s = exec i { s with cmds := rest, sched := turns }

/-- A step runs the decoded instruction, frames: a receive operation whose window of three bytes, or whose shifted full
window, becomes a frame with the byte it pulls runs that frame's instruction, in the state with the byte pulled and the
window updated (R160). The channel is open for reception (R253); the stream may be endless (log 14). -/
def Obligations.StepRunsDecodedFrame : Prop :=
  ∀ (s : State) (b : Byte) (rest : RxStream) (f : Frame) (i : Instr) (tx : Bool) (turns : List Turn),
    s.op.receives = true → s.readyThen turns → s.channel = .opened tx true → s.rx.pull = some (b, rest) →
    (s.wn = 3#3 ∧ f = { s.w with b3 := b } ∨
      s.wn = 4#3 ∧ f = { b0 := s.w.b1, b1 := s.w.b2, b2 := s.w.b3, b3 := b }) →
    decode (.frame f) = .ok i →
    step s = exec i { s with rx := rest, w := f, wn := 4#3, sched := turns }

/-- R160: the receive step that completes no frame pulls one byte, stores it at `W[WN]` or shifts the full window, and
changes nothing else. -/
def Obligations.ReceiveStepFillsTheWindow : Prop :=
  ∀ (s : State) (b : Byte) (rest : RxStream) (tx : Bool) (turns : List Turn),
    s.op.receives = true → s.readyThen turns → s.channel = .opened tx true → s.rx.pull = some (b, rest) →
    (s.wn = 0#3 → step s = .next { s with rx := rest, w := { s.w with b0 := b }, wn := 1#3, sched := turns }) ∧
    (s.wn = 1#3 → step s = .next { s with rx := rest, w := { s.w with b1 := b }, wn := 2#3, sched := turns }) ∧
    (s.wn = 2#3 → step s = .next { s with rx := rest, w := { s.w with b2 := b }, wn := 3#3, sched := turns }) ∧
    (s.wn = 3#3 → Frame.valid { s.w with b3 := b } = false →
      step s = .next { s with rx := rest, w := { s.w with b3 := b }, wn := 4#3, sched := turns }) ∧
    (s.wn = 4#3 → Frame.valid { b0 := s.w.b1, b1 := s.w.b2, b2 := s.w.b3, b3 := b } = false →
      step s = .next { s with
        rx := rest, w := { b0 := s.w.b1, b1 := s.w.b2, b2 := s.w.b3, b3 := b }, sched := turns })

/-- R142: TxStep pushes the byte `TCNT` names; the twelfth completes with `RSP = 0` and leaves `TCNT` at 11. The channel
is open for transmission (R253). -/
def Obligations.TransmitStepPushesOneByte : Prop :=
  ∀ (s : State) (rx : Bool) (turns : List Turn), s.op = .encode → s.readyThen turns → s.channel = .opened true rx →
    (s.tcnt = 11#4 →
      step s = .next { s with
        tx := s.tx ++ [encByte s.taddr s.tdata 11#4], rsp := 0#32, rspv := true, op := .idle, sched := turns }) ∧
    (s.tcnt ≠ 11#4 →
      step s = .next { s with
        tx := s.tx ++ [encByte s.taddr s.tdata s.tcnt], tcnt := s.tcnt + 1#4, sched := turns })

/-- R105: the host takes the response: it receives `RSP`, `RSPV` is cleared, `RSP` keeps its value; then the engine can
accept a command. -/
def Obligations.HostTakesTheResponse : Prop :=
  ∀ (s : State) (turns : List Turn), s.awaitsHost → s.readyThen turns →
    ∃ t, step s = .next t ∧ t = { s with taken := s.taken ++ [s.rsp], rspv := false, sched := turns } ∧ t.accepts

/-- R251: Reset, in any state whatever: the control registers get the values of its pseudocode, both streams and both
ports stay as they are (no response is delivered); nothing is said of the registers it leaves unspecified. -/
def Obligations.ResetStepInAnyState : Prop :=
  ∀ (s : State) (turns : List Turn), s.sched = .reset :: turns →
    ∃ t, step s = .next t ∧ t.op = .idle ∧ t.rspv = false ∧ t.tcnt = 0#4 ∧ t.wn = 0#3 ∧ t.cph = .p0 ∧ t.sv = 0#3 ∧
      t.rx = s.rx ∧ t.tx = s.tx ∧ t.cmds = s.cmds ∧ t.taken = s.taken ∧ t.channel = s.channel ∧
      t.refetchFiltered = s.refetchFiltered ∧ t.sched = turns ∧ t.accepts

/-- A state with no enabled step is left as it is by a step of the model, but for its schedule (log 2, a DESIGN CHOICE): a
blocked operation (R158), a quiescent engine with nothing offered (R262), and any state while host or channel waits. -/
def Obligations.NothingEnabledNothingChanges : Prop :=
  ∀ (s : State) (turns : List Turn),
    (s.readyThen turns → s.blocked → step s = .next { s with sched := turns }) ∧
    (s.readyThen turns → s.ended → step s = .next { s with sched := turns }) ∧
    (s.sched = .wait :: turns → step s = .next { s with sched := turns })

/-- Ready and wait turns only delay (R263, log 1): what a run reaches with host and channel always ready it reaches under
every schedule of ready and wait turns that has as many ready turns as the run has steps. With it the statements below
about runs, which suppose an empty schedule, speak of such schedules too. -/
def Obligations.SchedulesOnlyDelay : Prop :=
  ∀ (s t : State) (turns : List Turn), (∀ x ∈ turns, x = .ready ∨ x = .wait) → s.sched = turns →
    runSteps (turns.count .ready) { s with sched := [] } = some t → runSteps turns.length s = some t

/-- The launch premise of R253 as the model holds it (log 13): a byte transfer is refused by name while the channel is
closed or not enabled in that direction, and a second opening is refused. -/
def Obligations.ChannelPremiseIsGuarded : Prop :=
  ∀ (s : State) (turns : List Turn),
    (s.readyThen turns → s.op = .encode → s.channel = .closed → step s = .refused .channelNotOpen) ∧
    (s.readyThen turns → s.op.receives = true → s.rx.pull ≠ none → s.channel = .closed →
      step s = .refused .channelNotOpen) ∧
    (∀ rx, s.readyThen turns → s.op = .encode → s.channel = .opened false rx →
      step s = .refused .transmitNotEnabled) ∧
    (∀ tx, s.readyThen turns → s.op.receives = true → s.rx.pull ≠ none → s.channel = .opened tx false →
      step s = .refused .receiveNotEnabled) ∧
    (∀ tx rx, s.sched = .openChannel tx rx :: turns → s.channel = .closed →
      step s = .next { s with sched := turns, channel := .opened tx rx }) ∧
    (∀ tx rx tx' rx', s.sched = .openChannel tx rx :: turns → s.channel = .opened tx' rx' →
      step s = .refused .channelAlreadyOpen)

/-- R220: no operation can fail: with the channel open in both directions (R253) and not opened again, every step of
every state answers a next state. -/
def Obligations.NoStepFails : Prop :=
  ∀ s : State, s.channel = .opened true true → (∀ tx rx turns, s.sched ≠ .openChannel tx rx :: turns) →
    ∃ t, step s = .next t

/-! ### What every step keeps -/

/-- R38: the invariants hold after every step from every state in which they hold. -/
def Obligations.InvariantsKept : Prop :=
  ∀ s t : State, s.Inv → step s = .next t → t.Inv

/-- R38, R37: the invariants hold right after reset. -/
def Obligations.InvariantsAtReset : Prop := State.reset.Inv

/-- R59, R52, R53: a step moves at most one byte, whole: it leaves both streams, or pulls the first byte of `rx`, or
appends one byte to `tx`. -/
def Obligations.StepMovesAtMostOneByte : Prop :=
  ∀ s t : State, step s = .next t →
    (t.rx = s.rx ∧ t.tx = s.tx) ∨ (∃ b, s.rx.pull = some (b, t.rx) ∧ t.tx = s.tx) ∨ (∃ b, t.rx = s.rx ∧ t.tx = s.tx ++ [b])

/-- R54: only an ENCODE reaches `tx`, only the four receive operations reach `rx`. No step that accepts a command or takes
a response reaches either, since none of these operations is then in progress; no reset does in any state (R251). -/
def Obligations.OperationsReachTheirStream : Prop :=
  ∀ s t : State, step s = .next t →
    (t.tx ≠ s.tx → s.op = .encode) ∧ (t.rx ≠ s.rx → s.op.receives = true) ∧
    (∀ turns, s.sched = .reset :: turns → t.tx = s.tx ∧ t.rx = s.rx)

/-- R68: operands are copied at accept and the command port is not looked at again until the operation completes: while an
operation is in progress no step but a reset writes `TADDR`, `TDATA` or `LOCAL`, none takes a word off the command port,
and with any other words offered there the step does the same. -/
def Obligations.OperandsStayLatched : Prop :=
  ∀ s t : State, step s = .next t → s.op ≠ .idle →
    ((∀ turns, s.sched ≠ .reset :: turns) → t.taddr = s.taddr ∧ t.tdata = s.tdata ∧ t.localAddr = s.localAddr) ∧
    t.cmds = s.cmds ∧ ∀ words : List CmdWord, step { s with cmds := words } = .next { t with cmds := words }

/-- R8: `REFETCH_FILTERED` is a parameter, and R253: the channel is opened once. No step changes the parameter, and no
step closes or reconfigures an open channel (log 6, log 13). -/
def Obligations.ParametersFixed : Prop :=
  ∀ s t : State, step s = .next t →
    t.refetchFiltered = s.refetchFiltered ∧ (s.channel ≠ .closed → t.channel = s.channel)

/-- R34, R36: no result depends on an earlier operation's leftovers. Two states that differ at most in registers that hold
no value (window bytes at or above `WN`, empty slots, operands and counters of operations not in progress, a response
already taken) take the same step, and the states after it differ at most so. -/
def Obligations.StaleRegistersAreNeverRead : Prop :=
  ∀ s t : State, s.sameLive t →
    (∀ s', step s = .next s' → ∃ t', step t = .next t' ∧ s'.sameLive t') ∧
    (∀ r, step s = .refused r → step t = .refused r)

/-! ### The per-byte steps against the stream functions (R12) -/

/-- R143: from the accept of `ENCODE a, d`, after exactly twelve TxSteps, the transmit stream has grown by the 12 bytes of
R140 in that order, `OP == IDLE` and `RSPV == 1`. Nothing else changes but the latched operands, `TCNT` and `RSP`. -/
def Obligations.EncodeSendsItsTwelveBytes : Prop :=
  ∀ (s : State) (a : Addr) (d : Byte) (rest : List CmdWord) (c : CmdWord) (rx : Bool),
    s.accepts → s.sched = [] → s.channel = .opened true rx → s.cmds = c :: rest →
    decode (.command c) = .ok (.encode a d) →
    runSteps 13 s =
      some { s with
        cmds := rest, taddr := a, tdata := d, tcnt := 11#4, tx := s.tx ++ streamEncode a d
        rsp := 0#32, rspv := true, op := .idle }

/-- A receive operation just accepted, host ready, channel open for reception. -/
def freshReceive (s : State) (o : Op) : Prop :=
  s.op = o ∧ s.rspv = false ∧ s.wn = 0#3 ∧ s.sched = [] ∧ ∃ tx, s.channel = .opened tx true

/-- R157, R160, R162, R166: a SCAN or RECV, run byte by byte on any stream, finite or endless. Where the stream function
has a result on the first `n` bytes, the operation completes with it after exactly as many steps as bytes are consumed;
where it has none, all these bytes are pulled and the operation still waits, blocked if the stream ends there. -/
def Obligations.ScanAndRecvAgreeWithStream : Prop :=
  ∀ (s : State) (n : Nat),
    (freshReceive s .scan →
      (∀ f rest, streamScan (s.rx.first n) = some (f, rest) →
        runSteps ((s.rx.first n).length - rest.length) s =
          some { s with
            rx := s.rx.drop ((s.rx.first n).length - rest.length), w := f
            rsp := packFrame f, rspv := true, op := .idle }) ∧
      (streamScan (s.rx.first n) = none →
        ∃ t, runSteps (s.rx.first n).length s = some t ∧ t.op = .scan ∧ t.rspv = false ∧
          t.rx = s.rx.drop n ∧ (t.rx.pull = none → t.blocked) ∧ t.tx = s.tx ∧ t.taken = s.taken)) ∧
    (freshReceive s .recv →
      (∀ p rest, streamRecv (s.rx.first n) = some (p, rest) →
        ∃ t, runSteps ((s.rx.first n).length - rest.length) s = some t ∧ t.awaitsHost ∧
          t.rx = s.rx.drop ((s.rx.first n).length - rest.length) ∧
          t.rsp = packPacket p ∧ t.wn = 0#3 ∧ t.tx = s.tx ∧ t.taken = s.taken) ∧
      (streamRecv (s.rx.first n) = none →
        ∃ t, runSteps (s.rx.first n).length s = some t ∧ t.op = .recv ∧ t.rspv = false ∧
          t.rx = s.rx.drop n ∧ (t.rx.pull = none → t.blocked) ∧ t.tx = s.tx ∧ t.taken = s.taken))

/-- R178, R179: a FILTER, run byte by byte on any stream, finite or endless: as in ScanAndRecvAgreeWithStream. -/
def Obligations.FilterAgreesWithStream : Prop :=
  ∀ (s : State) (n : Nat), freshReceive s .filter →
    (∀ p rest, streamFilter s.localAddr (s.rx.first n) = some (p, rest) →
      ∃ t, runSteps ((s.rx.first n).length - rest.length) s = some t ∧ t.awaitsHost ∧
        t.rx = s.rx.drop ((s.rx.first n).length - rest.length) ∧
        t.rsp = packPacket p ∧ t.wn = 0#3 ∧ t.tx = s.tx ∧ t.taken = s.taken) ∧
    (streamFilter s.localAddr (s.rx.first n) = none →
      ∃ t, runSteps (s.rx.first n).length s = some t ∧ t.op = .filter ∧ t.rspv = false ∧
        t.rx = s.rx.drop n ∧ (t.rx.pull = none → t.blocked) ∧ t.tx = s.tx ∧ t.taken = s.taken)

/-- R193, R199: a COMBINE, run byte by byte on any stream, finite or endless, and under either value of
`REFETCH_FILTERED`: as in ScanAndRecvAgreeWithStream, filling the slots of the stream function and completing with their
vote (`RSP[31:8]` being 0 also on an empty window, R200). -/
def Obligations.CombineAgreesWithStream : Prop :=
  ∀ (s : State) (n : Nat), freshReceive s .combine → s.cph = .p0 → s.sv = 0#3 →
    (∀ v, streamCombine s.refetchFiltered s.localAddr s.sd (s.rx.first n) = some v →
      ∃ (t : State) (b : Byte), runSteps ((s.rx.first n).length - v.rest.length) s = some t ∧
        t.awaitsHost ∧ t.rx = s.rx.drop ((s.rx.first n).length - v.rest.length) ∧
        t.sv = v.sv ∧ t.sd = v.sd ∧ t.rsp = 0#24 ++ b ∧
        (∀ b', resolve v.sv v.sd = some b' → b = b') ∧ t.wn = 0#3 ∧ t.tx = s.tx ∧ t.taken = s.taken) ∧
    (streamCombine s.refetchFiltered s.localAddr s.sd (s.rx.first n) = none →
      ∃ t, runSteps (s.rx.first n).length s = some t ∧ t.op = .combine ∧ t.rspv = false ∧
        t.rx = s.rx.drop n ∧ (t.rx.pull = none → t.blocked) ∧ t.tx = s.tx ∧ t.taken = s.taken)

/-! ### The stream functions -/

/-- R51, R157, R178, R193: a result needs no byte behind those it consumes: a stream function that has a value on some
bytes has it on them followed by any others, which it leaves. So its value on a beginning of an endless stream is its
value on every longer beginning (log 14). -/
def Obligations.ResultsNeedNoLaterByte : Prop :=
  ∀ (bytes later : List Byte),
    (∀ f rest, streamScan bytes = some (f, rest) → streamScan (bytes ++ later) = some (f, rest ++ later)) ∧
    (∀ p rest, streamRecv bytes = some (p, rest) → streamRecv (bytes ++ later) = some (p, rest ++ later)) ∧
    (∀ a p rest, streamFilter a bytes = some (p, rest) →
      streamFilter a (bytes ++ later) = some (p, rest ++ later)) ∧
    (∀ rf a sd v, streamCombine rf a sd bytes = some v →
      streamCombine rf a sd (bytes ++ later) = some { v with rest := v.rest ++ later })

/-- R157: SCAN returns the window at the least index whose window is valid, and the stream behind it; it is blocked when
no window is valid. -/
def Obligations.ScanFindsTheFirstValidWindow : Prop :=
  ∀ s : List Byte,
    (∀ f rest, streamScan s = some (f, rest) ↔
      ∃ k, s.drop k = frameBytes f ++ rest ∧ f.valid = true ∧
        ∀ j, j < k → ∀ g r, s.drop j = frameBytes g ++ r → g.valid = false) ∧
    (streamScan s = none ↔ ∀ k g r, s.drop k = frameBytes g ++ r → g.valid = false)

/-- R178: FILTER is RECV repeated until the address matches, with no bound on the packets skipped (R181). -/
def Obligations.FilterIsRepeatedRecv : Prop :=
  ∀ (a : Addr) (s : List Byte),
    (streamRecv s = none → streamFilter a s = none) ∧
    (∀ p rest, streamRecv s = some (p, rest) →
      (p.address = a → streamFilter a s = some (p, rest)) ∧
      (p.address ≠ a → streamFilter a s = streamFilter a rest))

/-- R163: on the 12 bytes ENCODE appends, three RECVs return `{a, 0, d}`, `{a, 1, d}`, `{a, 2, d}`, 4 bytes each, and a
fourth blocks. -/
def Obligations.RoundTripGivesThreePackets : Prop :=
  ∀ (a : Addr) (d : Byte), ∃ s1 s2 : List Byte,
    streamRecv (streamEncode a d) = some ({ address := a, sequence := 0#3, data := d }, s1) ∧ s1.length = 8 ∧
    streamRecv s1 = some ({ address := a, sequence := 1#3, data := d }, s2) ∧ s2.length = 4 ∧
    streamRecv s2 = some ({ address := a, sequence := 2#3, data := d }, []) ∧ streamRecv [] = none

/-- R202: every packet a filtered fetch returns has the local address, so with `REFETCH_FILTERED` true the conditions
"and its address matches" of the second and third test always hold. -/
def Obligations.FilteredFetchesAreLocal : Prop :=
  ∀ (a : Addr) (s : List Byte) (p : Packet) (rest : List Byte),
    (streamFilter a s = some (p, rest) → p.address = a) ∧
    (streamFetch2 true a s = some (p, rest) → p.address = a)

/-- R204, the table: which slots a COMBINE fills and what it returns, by the sequence numbers of the packets its fetches
find (`REFETCH_FILTERED` true), and how much of the stream is left. Each row supposes the fetches it makes, no more. Then
that every row is reachable: for all sequence numbers and data of three packets a stream whose fetches find them; and
every shape of window: for each of the eight values of `SV` a stream on which a COMBINE fills just these slots. -/
def Obligations.VoteWindowShapes : Prop :=
  (∀ (a : Addr) (sd : SlotData) (s s1 : List Byte) (p0 : Packet), streamFilter a s = some (p0, s1) →
    (p0.sequence = 2#3 → ∃ v, streamCombine true a sd s = some v ∧
      v.sv = 4#3 ∧ resolve v.sv v.sd = some p0.data ∧ v.rest = s1) ∧
    (3 ≤ p0.sequence.toNat → ∃ v, streamCombine true a sd s = some v ∧
      v.sv = 0#3 ∧ resolve v.sv v.sd = none ∧ v.rest = s1) ∧
    (∀ p1 s2, streamFilter a s1 = some (p1, s2) →
      (p0.sequence = 1#3 → p1.sequence = 2#3 → ∃ v, streamCombine true a sd s = some v ∧
        v.sv = 6#3 ∧ resolve v.sv v.sd = some p0.data ∧ v.rest = s2) ∧
      (p0.sequence = 1#3 → p1.sequence ≠ 2#3 → ∃ v, streamCombine true a sd s = some v ∧
        v.sv = 2#3 ∧ resolve v.sv v.sd = some p0.data ∧ v.rest = s2) ∧
      (p0.sequence = 0#3 → p1.sequence = 2#3 → ∃ v, streamCombine true a sd s = some v ∧
        v.sv = 5#3 ∧ resolve v.sv v.sd = some p0.data ∧ v.rest = s2) ∧
      (p0.sequence = 0#3 → p1.sequence ≠ 1#3 → p1.sequence ≠ 2#3 → ∃ v, streamCombine true a sd s = some v ∧
        v.sv = 1#3 ∧ resolve v.sv v.sd = some p0.data ∧ v.rest = s2) ∧
      (∀ p2 s3, streamFilter a s2 = some (p2, s3) → p0.sequence = 0#3 → p1.sequence = 1#3 →
        (p2.sequence = 2#3 → ∃ v, streamCombine true a sd s = some v ∧
          v.sv = 7#3 ∧ v.sd = { d0 := p0.data, d1 := p1.data, d2 := p2.data } ∧ v.rest = s3) ∧
        (p2.sequence ≠ 2#3 → ∃ v, streamCombine true a sd s = some v ∧
          v.sv = 3#3 ∧ resolve v.sv v.sd = some p0.data ∧ v.rest = s3)))) ∧
  (∀ (a : Addr) (q0 q1 q2 : Seq) (d0 d1 d2 : Byte), ∃ s s1 s2 s3 : List Byte,
    streamFilter a s = some ({ address := a, sequence := q0, data := d0 }, s1) ∧
    streamFilter a s1 = some ({ address := a, sequence := q1, data := d1 }, s2) ∧
    streamFilter a s2 = some ({ address := a, sequence := q2, data := d2 }, s3)) ∧
  (∀ (a : Addr) (sd : SlotData) (sv : BitVec 3), ∃ s v, streamCombine true a sd s = some v ∧ v.sv = sv)

/-- 90_conflicts.md C3: the source's guarantee as a derived fact: when the first packet fetched has sequence 0 to 2 the
window is not empty when it is resolved. -/
def Obligations.FirstPacketInRangeFillsASlot : Prop :=
  ∀ (rf : Bool) (a : Addr) (sd : SlotData) (s s1 : List Byte) (p0 : Packet) (v : VoteRun),
    streamFilter a s = some (p0, s1) → p0.sequence.toNat ≤ 2 → streamCombine rf a sd s = some v →
    windowNonEmpty v.sv = true ∧ ∃ b, resolve v.sv v.sd = some b

/-- 95_test_vectors.md P1, S3: COMBINE on what ENCODE sent, whatever follows on the stream, returns the data after the
12 bytes, all three slots filled, under both values of `REFETCH_FILTERED`. -/
def Obligations.CombineReturnsWhatWasEncoded : Prop :=
  ∀ (rf : Bool) (a : Addr) (d : Byte) (sd : SlotData) (rest : List Byte), ∃ v,
    streamCombine rf a sd (streamEncode a d ++ rest) = some v ∧ v.sv = 7#3 ∧ resolve v.sv v.sd = some d ∧
      v.rest = rest
end

