-- ==== Sys2Proof/Laws/Encoding.lean ====
section
/-! SUPPORT. The bit facts of frames and command words: what the fields of an encoded byte or word read back as. -/

namespace Sys2Proof

/-- `addrSeq` is the address over the sequence, `aaaaasss` (30_encoding.md R70, R75). -/
theorem addrSeq_eq_append (a : Addr) (q : Seq) : addrSeq a q = a ++ q := by
  revert q; revert a; decide

theorem addrSeq_address (a : Addr) (q : Seq) : (addrSeq a q >>> Config.addrShift).setWidth 5 = a := by
  revert q; revert a; decide

theorem addrSeq_sequence (a : Addr) (q : Seq) : (addrSeq a q &&& Config.seqMask).setWidth 3 = q := by
  revert q; revert a; decide

/-- Every byte is the `addrSeq` of its two fields. -/
theorem addrSeq_of_fields (x : Byte) :
    addrSeq ((x >>> Config.addrShift).setWidth 5) ((x &&& Config.seqMask).setWidth 3) = x := by
  revert x; decide

@[simp] theorem wireFrame_b0 (a : Addr) (q : Seq) (d c : Byte) : (wireFrame a q d c).b0 = Config.sync := rfl
@[simp] theorem wireFrame_b1 (a : Addr) (q : Seq) (d c : Byte) : (wireFrame a q d c).b1 = addrSeq a q := rfl
@[simp] theorem wireFrame_b2 (a : Addr) (q : Seq) (d c : Byte) : (wireFrame a q d c).b2 = d := rfl
@[simp] theorem wireFrame_b3 (a : Addr) (q : Seq) (d c : Byte) : (wireFrame a q d c).b3 = c := rfl

/-- A FRAME row's packet is its fields (41_frame_functions.md R122). -/
@[simp] theorem wireFrame_packet (a : Addr) (q : Seq) (d c : Byte) :
    (wireFrame a q d c).packet = { address := a, sequence := q, data := d } := by
  simp only [Frame.packet, wireFrame_b1, wireFrame_b2, addrSeq_address, addrSeq_sequence]

/-- `Valid` is its two conditions (R120). -/
theorem valid_iff (f : Frame) : f.valid = true ↔ f.b0 = Config.sync ∧ f.b3 = f.b1 ^^^ f.b2 := by
  simp [Frame.valid]

/-- What the frame decoder answers, once for every frame (R86). -/
theorem decodeFrame_eq (f : Frame) :
    decodeFrame f =
      if f.b0 ≠ Config.sync then .error .badSync
      else if f.b3 ≠ f.b1 ^^^ f.b2 then .error .badChecksum
      else .ok (Instr.ofSeq f.packet.sequence f.packet.address f.packet.data f.b3) := rfl

/-- A valid frame is the FRAME row of its own fields. -/
theorem wireFrame_of_valid (f : Frame) (h : f.valid = true) :
    wireFrame f.packet.address f.packet.sequence f.packet.data f.b3 = f := by
  obtain ⟨h0, -⟩ := (valid_iff f).1 h
  simp only [wireFrame, Frame.packet, addrSeq_of_fields, ← h0]

/-- Which row a sequence value names (R86). -/
theorem ofSeq_cases (q : Seq) (a : Addr) (d c : Byte) :
    (q = 0 ∧ Instr.ofSeq q a d c = .frameSeq0 a d c) ∨ (q = 1 ∧ Instr.ofSeq q a d c = .frameSeq1 a d c) ∨
    (q = 2 ∧ Instr.ofSeq q a d c = .frameSeq2 a d c) ∨ (q = 3 ∧ Instr.ofSeq q a d c = .frameSeq3 a d c) ∨
    (q = 4 ∧ Instr.ofSeq q a d c = .frameSeq4 a d c) ∨ (q = 5 ∧ Instr.ofSeq q a d c = .frameSeq5 a d c) ∨
    (q = 6 ∧ Instr.ofSeq q a d c = .frameSeq6 a d c) ∨ (q = 7 ∧ Instr.ofSeq q a d c = .frameSeq7 a d c) := by
  have h : q = 0 ∨ q = 1 ∨ q = 2 ∨ q = 3 ∨ q = 4 ∨ q = 5 ∨ q = 6 ∨ q = 7 := by revert q; decide
  rcases h with rfl | rfl | rfl | rfl | rfl | rfl | rfl | rfl <;> simp [Instr.ofSeq]

theorem commandWord_opc (o : BitVec 3) (a : Addr) (d : Byte) : CmdWord.opc (commandWord o a d) = o := by
  ext i hi
  simp only [CmdWord.opc, commandWord, BitVec.getElem_extractLsb', BitVec.getLsbD_append]
  have h1 : ¬ 13 + i < 8 := by omega
  have h2 : ¬ 13 + i - 8 < 5 := by omega
  have h3 : 13 + i - 8 - 5 = i := by omega
  simp [h1, h2, h3, BitVec.getElem_eq_testBit_toNat, BitVec.getLsbD]

theorem commandWord_a (o : BitVec 3) (a : Addr) (d : Byte) : CmdWord.a (commandWord o a d) = a := by
  ext i hi
  simp only [CmdWord.a, commandWord, BitVec.getElem_extractLsb', BitVec.getLsbD_append]
  have h1 : ¬ 8 + i < 8 := by omega
  have h2 : 8 + i - 8 < 5 := by omega
  have h3 : 8 + i - 8 = i := by omega
  simp [h1, hi, h3, BitVec.getElem_eq_testBit_toNat, BitVec.getLsbD]

theorem commandWord_d (o : BitVec 3) (a : Addr) (d : Byte) : CmdWord.d (commandWord o a d) = d := by
  ext i hi
  simp only [CmdWord.d, commandWord, BitVec.getElem_extractLsb', BitVec.getLsbD_append]
  simp [hi, BitVec.getElem_eq_testBit_toNat, BitVec.getLsbD]

end Sys2Proof
end

