-- ==== Sys2Proof/Laws/State.lean ====
section
/-! SUPPORT. One lemma for each field under each named update of State, so that no later proof unfolds a record update.
hostReset has them for the fields whose value the spec gives (R251); the others are free draws. -/

namespace Sys2Proof.Machine

/-! ### setRx -/

@[simp] theorem State.setRx_op (s : State) (rest : RxStream) : (s.setRx rest).op = s.op := rfl
@[simp] theorem State.setRx_rspv (s : State) (rest : RxStream) : (s.setRx rest).rspv = s.rspv := rfl
@[simp] theorem State.setRx_tcnt (s : State) (rest : RxStream) : (s.setRx rest).tcnt = s.tcnt := rfl
@[simp] theorem State.setRx_wn (s : State) (rest : RxStream) : (s.setRx rest).wn = s.wn := rfl
@[simp] theorem State.setRx_cph (s : State) (rest : RxStream) : (s.setRx rest).cph = s.cph := rfl
@[simp] theorem State.setRx_w (s : State) (rest : RxStream) : (s.setRx rest).w = s.w := rfl
@[simp] theorem State.setRx_sv (s : State) (rest : RxStream) : (s.setRx rest).sv = s.sv := rfl
@[simp] theorem State.setRx_sd (s : State) (rest : RxStream) : (s.setRx rest).sd = s.sd := rfl
@[simp] theorem State.setRx_taddr (s : State) (rest : RxStream) : (s.setRx rest).taddr = s.taddr := rfl
@[simp] theorem State.setRx_tdata (s : State) (rest : RxStream) : (s.setRx rest).tdata = s.tdata := rfl
@[simp] theorem State.setRx_localAddr (s : State) (rest : RxStream) : (s.setRx rest).localAddr = s.localAddr := rfl
@[simp] theorem State.setRx_rsp (s : State) (rest : RxStream) : (s.setRx rest).rsp = s.rsp := rfl
@[simp] theorem State.setRx_rx (s : State) (rest : RxStream) : (s.setRx rest).rx = rest := rfl
@[simp] theorem State.setRx_tx (s : State) (rest : RxStream) : (s.setRx rest).tx = s.tx := rfl
@[simp] theorem State.setRx_cmds (s : State) (rest : RxStream) : (s.setRx rest).cmds = s.cmds := rfl
@[simp] theorem State.setRx_taken (s : State) (rest : RxStream) : (s.setRx rest).taken = s.taken := rfl
@[simp] theorem State.setRx_channel (s : State) (rest : RxStream) : (s.setRx rest).channel = s.channel := rfl
@[simp] theorem State.setRx_sched (s : State) (rest : RxStream) : (s.setRx rest).sched = s.sched := rfl
@[simp] theorem State.setRx_refetchFiltered (s : State) (rest : RxStream) : (s.setRx rest).refetchFiltered = s.refetchFiltered := rfl
@[simp] theorem State.setRx_draws (s : State) (rest : RxStream) : (s.setRx rest).draws = s.draws := rfl

/-! ### setCmds -/

@[simp] theorem State.setCmds_op (s : State) (words : List CmdWord) : (s.setCmds words).op = s.op := rfl
@[simp] theorem State.setCmds_rspv (s : State) (words : List CmdWord) : (s.setCmds words).rspv = s.rspv := rfl
@[simp] theorem State.setCmds_tcnt (s : State) (words : List CmdWord) : (s.setCmds words).tcnt = s.tcnt := rfl
@[simp] theorem State.setCmds_wn (s : State) (words : List CmdWord) : (s.setCmds words).wn = s.wn := rfl
@[simp] theorem State.setCmds_cph (s : State) (words : List CmdWord) : (s.setCmds words).cph = s.cph := rfl
@[simp] theorem State.setCmds_w (s : State) (words : List CmdWord) : (s.setCmds words).w = s.w := rfl
@[simp] theorem State.setCmds_sv (s : State) (words : List CmdWord) : (s.setCmds words).sv = s.sv := rfl
@[simp] theorem State.setCmds_sd (s : State) (words : List CmdWord) : (s.setCmds words).sd = s.sd := rfl
@[simp] theorem State.setCmds_taddr (s : State) (words : List CmdWord) : (s.setCmds words).taddr = s.taddr := rfl
@[simp] theorem State.setCmds_tdata (s : State) (words : List CmdWord) : (s.setCmds words).tdata = s.tdata := rfl
@[simp] theorem State.setCmds_localAddr (s : State) (words : List CmdWord) : (s.setCmds words).localAddr = s.localAddr := rfl
@[simp] theorem State.setCmds_rsp (s : State) (words : List CmdWord) : (s.setCmds words).rsp = s.rsp := rfl
@[simp] theorem State.setCmds_rx (s : State) (words : List CmdWord) : (s.setCmds words).rx = s.rx := rfl
@[simp] theorem State.setCmds_tx (s : State) (words : List CmdWord) : (s.setCmds words).tx = s.tx := rfl
@[simp] theorem State.setCmds_cmds (s : State) (words : List CmdWord) : (s.setCmds words).cmds = words := rfl
@[simp] theorem State.setCmds_taken (s : State) (words : List CmdWord) : (s.setCmds words).taken = s.taken := rfl
@[simp] theorem State.setCmds_channel (s : State) (words : List CmdWord) : (s.setCmds words).channel = s.channel := rfl
@[simp] theorem State.setCmds_sched (s : State) (words : List CmdWord) : (s.setCmds words).sched = s.sched := rfl
@[simp] theorem State.setCmds_refetchFiltered (s : State) (words : List CmdWord) : (s.setCmds words).refetchFiltered = s.refetchFiltered := rfl
@[simp] theorem State.setCmds_draws (s : State) (words : List CmdWord) : (s.setCmds words).draws = s.draws := rfl

/-! ### setSched -/

@[simp] theorem State.setSched_op (s : State) (turns : List Turn) : (s.setSched turns).op = s.op := rfl
@[simp] theorem State.setSched_rspv (s : State) (turns : List Turn) : (s.setSched turns).rspv = s.rspv := rfl
@[simp] theorem State.setSched_tcnt (s : State) (turns : List Turn) : (s.setSched turns).tcnt = s.tcnt := rfl
@[simp] theorem State.setSched_wn (s : State) (turns : List Turn) : (s.setSched turns).wn = s.wn := rfl
@[simp] theorem State.setSched_cph (s : State) (turns : List Turn) : (s.setSched turns).cph = s.cph := rfl
@[simp] theorem State.setSched_w (s : State) (turns : List Turn) : (s.setSched turns).w = s.w := rfl
@[simp] theorem State.setSched_sv (s : State) (turns : List Turn) : (s.setSched turns).sv = s.sv := rfl
@[simp] theorem State.setSched_sd (s : State) (turns : List Turn) : (s.setSched turns).sd = s.sd := rfl
@[simp] theorem State.setSched_taddr (s : State) (turns : List Turn) : (s.setSched turns).taddr = s.taddr := rfl
@[simp] theorem State.setSched_tdata (s : State) (turns : List Turn) : (s.setSched turns).tdata = s.tdata := rfl
@[simp] theorem State.setSched_localAddr (s : State) (turns : List Turn) : (s.setSched turns).localAddr = s.localAddr := rfl
@[simp] theorem State.setSched_rsp (s : State) (turns : List Turn) : (s.setSched turns).rsp = s.rsp := rfl
@[simp] theorem State.setSched_rx (s : State) (turns : List Turn) : (s.setSched turns).rx = s.rx := rfl
@[simp] theorem State.setSched_tx (s : State) (turns : List Turn) : (s.setSched turns).tx = s.tx := rfl
@[simp] theorem State.setSched_cmds (s : State) (turns : List Turn) : (s.setSched turns).cmds = s.cmds := rfl
@[simp] theorem State.setSched_taken (s : State) (turns : List Turn) : (s.setSched turns).taken = s.taken := rfl
@[simp] theorem State.setSched_channel (s : State) (turns : List Turn) : (s.setSched turns).channel = s.channel := rfl
@[simp] theorem State.setSched_sched (s : State) (turns : List Turn) : (s.setSched turns).sched = turns := rfl
@[simp] theorem State.setSched_refetchFiltered (s : State) (turns : List Turn) : (s.setSched turns).refetchFiltered = s.refetchFiltered := rfl
@[simp] theorem State.setSched_draws (s : State) (turns : List Turn) : (s.setSched turns).draws = s.draws := rfl

/-! ### setCph -/

@[simp] theorem State.setCph_op (s : State) (p : Phase) : (s.setCph p).op = s.op := rfl
@[simp] theorem State.setCph_rspv (s : State) (p : Phase) : (s.setCph p).rspv = s.rspv := rfl
@[simp] theorem State.setCph_tcnt (s : State) (p : Phase) : (s.setCph p).tcnt = s.tcnt := rfl
@[simp] theorem State.setCph_wn (s : State) (p : Phase) : (s.setCph p).wn = s.wn := rfl
@[simp] theorem State.setCph_cph (s : State) (p : Phase) : (s.setCph p).cph = p := rfl
@[simp] theorem State.setCph_w (s : State) (p : Phase) : (s.setCph p).w = s.w := rfl
@[simp] theorem State.setCph_sv (s : State) (p : Phase) : (s.setCph p).sv = s.sv := rfl
@[simp] theorem State.setCph_sd (s : State) (p : Phase) : (s.setCph p).sd = s.sd := rfl
@[simp] theorem State.setCph_taddr (s : State) (p : Phase) : (s.setCph p).taddr = s.taddr := rfl
@[simp] theorem State.setCph_tdata (s : State) (p : Phase) : (s.setCph p).tdata = s.tdata := rfl
@[simp] theorem State.setCph_localAddr (s : State) (p : Phase) : (s.setCph p).localAddr = s.localAddr := rfl
@[simp] theorem State.setCph_rsp (s : State) (p : Phase) : (s.setCph p).rsp = s.rsp := rfl
@[simp] theorem State.setCph_rx (s : State) (p : Phase) : (s.setCph p).rx = s.rx := rfl
@[simp] theorem State.setCph_tx (s : State) (p : Phase) : (s.setCph p).tx = s.tx := rfl
@[simp] theorem State.setCph_cmds (s : State) (p : Phase) : (s.setCph p).cmds = s.cmds := rfl
@[simp] theorem State.setCph_taken (s : State) (p : Phase) : (s.setCph p).taken = s.taken := rfl
@[simp] theorem State.setCph_channel (s : State) (p : Phase) : (s.setCph p).channel = s.channel := rfl
@[simp] theorem State.setCph_sched (s : State) (p : Phase) : (s.setCph p).sched = s.sched := rfl
@[simp] theorem State.setCph_refetchFiltered (s : State) (p : Phase) : (s.setCph p).refetchFiltered = s.refetchFiltered := rfl
@[simp] theorem State.setCph_draws (s : State) (p : Phase) : (s.setCph p).draws = s.draws := rfl

/-! ### setWindow -/

@[simp] theorem State.setWindow_op (s : State) (w : Frame) (n : BitVec 3) : (s.setWindow w n).op = s.op := rfl
@[simp] theorem State.setWindow_rspv (s : State) (w : Frame) (n : BitVec 3) : (s.setWindow w n).rspv = s.rspv := rfl
@[simp] theorem State.setWindow_tcnt (s : State) (w : Frame) (n : BitVec 3) : (s.setWindow w n).tcnt = s.tcnt := rfl
@[simp] theorem State.setWindow_wn (s : State) (w : Frame) (n : BitVec 3) : (s.setWindow w n).wn = n := rfl
@[simp] theorem State.setWindow_cph (s : State) (w : Frame) (n : BitVec 3) : (s.setWindow w n).cph = s.cph := rfl
@[simp] theorem State.setWindow_w (s : State) (w : Frame) (n : BitVec 3) : (s.setWindow w n).w = w := rfl
@[simp] theorem State.setWindow_sv (s : State) (w : Frame) (n : BitVec 3) : (s.setWindow w n).sv = s.sv := rfl
@[simp] theorem State.setWindow_sd (s : State) (w : Frame) (n : BitVec 3) : (s.setWindow w n).sd = s.sd := rfl
@[simp] theorem State.setWindow_taddr (s : State) (w : Frame) (n : BitVec 3) : (s.setWindow w n).taddr = s.taddr := rfl
@[simp] theorem State.setWindow_tdata (s : State) (w : Frame) (n : BitVec 3) : (s.setWindow w n).tdata = s.tdata := rfl
@[simp] theorem State.setWindow_localAddr (s : State) (w : Frame) (n : BitVec 3) : (s.setWindow w n).localAddr = s.localAddr := rfl
@[simp] theorem State.setWindow_rsp (s : State) (w : Frame) (n : BitVec 3) : (s.setWindow w n).rsp = s.rsp := rfl
@[simp] theorem State.setWindow_rx (s : State) (w : Frame) (n : BitVec 3) : (s.setWindow w n).rx = s.rx := rfl
@[simp] theorem State.setWindow_tx (s : State) (w : Frame) (n : BitVec 3) : (s.setWindow w n).tx = s.tx := rfl
@[simp] theorem State.setWindow_cmds (s : State) (w : Frame) (n : BitVec 3) : (s.setWindow w n).cmds = s.cmds := rfl
@[simp] theorem State.setWindow_taken (s : State) (w : Frame) (n : BitVec 3) : (s.setWindow w n).taken = s.taken := rfl
@[simp] theorem State.setWindow_channel (s : State) (w : Frame) (n : BitVec 3) : (s.setWindow w n).channel = s.channel := rfl
@[simp] theorem State.setWindow_sched (s : State) (w : Frame) (n : BitVec 3) : (s.setWindow w n).sched = s.sched := rfl
@[simp] theorem State.setWindow_refetchFiltered (s : State) (w : Frame) (n : BitVec 3) : (s.setWindow w n).refetchFiltered = s.refetchFiltered := rfl
@[simp] theorem State.setWindow_draws (s : State) (w : Frame) (n : BitVec 3) : (s.setWindow w n).draws = s.draws := rfl

/-! ### emptyWindow -/

@[simp] theorem State.emptyWindow_op (s : State) : s.emptyWindow.op = s.op := rfl
@[simp] theorem State.emptyWindow_rspv (s : State) : s.emptyWindow.rspv = s.rspv := rfl
@[simp] theorem State.emptyWindow_tcnt (s : State) : s.emptyWindow.tcnt = s.tcnt := rfl
@[simp] theorem State.emptyWindow_wn (s : State) : s.emptyWindow.wn = 0#3 := rfl
@[simp] theorem State.emptyWindow_cph (s : State) : s.emptyWindow.cph = s.cph := rfl
@[simp] theorem State.emptyWindow_w (s : State) : s.emptyWindow.w = s.w := rfl
@[simp] theorem State.emptyWindow_sv (s : State) : s.emptyWindow.sv = s.sv := rfl
@[simp] theorem State.emptyWindow_sd (s : State) : s.emptyWindow.sd = s.sd := rfl
@[simp] theorem State.emptyWindow_taddr (s : State) : s.emptyWindow.taddr = s.taddr := rfl
@[simp] theorem State.emptyWindow_tdata (s : State) : s.emptyWindow.tdata = s.tdata := rfl
@[simp] theorem State.emptyWindow_localAddr (s : State) : s.emptyWindow.localAddr = s.localAddr := rfl
@[simp] theorem State.emptyWindow_rsp (s : State) : s.emptyWindow.rsp = s.rsp := rfl
@[simp] theorem State.emptyWindow_rx (s : State) : s.emptyWindow.rx = s.rx := rfl
@[simp] theorem State.emptyWindow_tx (s : State) : s.emptyWindow.tx = s.tx := rfl
@[simp] theorem State.emptyWindow_cmds (s : State) : s.emptyWindow.cmds = s.cmds := rfl
@[simp] theorem State.emptyWindow_taken (s : State) : s.emptyWindow.taken = s.taken := rfl
@[simp] theorem State.emptyWindow_channel (s : State) : s.emptyWindow.channel = s.channel := rfl
@[simp] theorem State.emptyWindow_sched (s : State) : s.emptyWindow.sched = s.sched := rfl
@[simp] theorem State.emptyWindow_refetchFiltered (s : State) : s.emptyWindow.refetchFiltered = s.refetchFiltered := rfl
@[simp] theorem State.emptyWindow_draws (s : State) : s.emptyWindow.draws = s.draws := rfl

/-! ### nextDraw -/

@[simp] theorem State.nextDraw_op (s : State) : s.nextDraw.op = s.op := rfl
@[simp] theorem State.nextDraw_rspv (s : State) : s.nextDraw.rspv = s.rspv := rfl
@[simp] theorem State.nextDraw_tcnt (s : State) : s.nextDraw.tcnt = s.tcnt := rfl
@[simp] theorem State.nextDraw_wn (s : State) : s.nextDraw.wn = s.wn := rfl
@[simp] theorem State.nextDraw_cph (s : State) : s.nextDraw.cph = s.cph := rfl
@[simp] theorem State.nextDraw_w (s : State) : s.nextDraw.w = s.w := rfl
@[simp] theorem State.nextDraw_sv (s : State) : s.nextDraw.sv = s.sv := rfl
@[simp] theorem State.nextDraw_sd (s : State) : s.nextDraw.sd = s.sd := rfl
@[simp] theorem State.nextDraw_taddr (s : State) : s.nextDraw.taddr = s.taddr := rfl
@[simp] theorem State.nextDraw_tdata (s : State) : s.nextDraw.tdata = s.tdata := rfl
@[simp] theorem State.nextDraw_localAddr (s : State) : s.nextDraw.localAddr = s.localAddr := rfl
@[simp] theorem State.nextDraw_rsp (s : State) : s.nextDraw.rsp = s.rsp := rfl
@[simp] theorem State.nextDraw_rx (s : State) : s.nextDraw.rx = s.rx := rfl
@[simp] theorem State.nextDraw_tx (s : State) : s.nextDraw.tx = s.tx := rfl
@[simp] theorem State.nextDraw_cmds (s : State) : s.nextDraw.cmds = s.cmds := rfl
@[simp] theorem State.nextDraw_taken (s : State) : s.nextDraw.taken = s.taken := rfl
@[simp] theorem State.nextDraw_channel (s : State) : s.nextDraw.channel = s.channel := rfl
@[simp] theorem State.nextDraw_sched (s : State) : s.nextDraw.sched = s.sched := rfl
@[simp] theorem State.nextDraw_refetchFiltered (s : State) : s.nextDraw.refetchFiltered = s.refetchFiltered := rfl
@[simp] theorem State.nextDraw_draws (s : State) : s.nextDraw.draws = s.draws + 1 := rfl

/-! ### complete -/

@[simp] theorem State.complete_op (s : State) (v : RspWord) : (s.complete v).op = .idle := rfl
@[simp] theorem State.complete_rspv (s : State) (v : RspWord) : (s.complete v).rspv = true := rfl
@[simp] theorem State.complete_tcnt (s : State) (v : RspWord) : (s.complete v).tcnt = s.tcnt := rfl
@[simp] theorem State.complete_wn (s : State) (v : RspWord) : (s.complete v).wn = s.wn := rfl
@[simp] theorem State.complete_cph (s : State) (v : RspWord) : (s.complete v).cph = s.cph := rfl
@[simp] theorem State.complete_w (s : State) (v : RspWord) : (s.complete v).w = s.w := rfl
@[simp] theorem State.complete_sv (s : State) (v : RspWord) : (s.complete v).sv = s.sv := rfl
@[simp] theorem State.complete_sd (s : State) (v : RspWord) : (s.complete v).sd = s.sd := rfl
@[simp] theorem State.complete_taddr (s : State) (v : RspWord) : (s.complete v).taddr = s.taddr := rfl
@[simp] theorem State.complete_tdata (s : State) (v : RspWord) : (s.complete v).tdata = s.tdata := rfl
@[simp] theorem State.complete_localAddr (s : State) (v : RspWord) : (s.complete v).localAddr = s.localAddr := rfl
@[simp] theorem State.complete_rsp (s : State) (v : RspWord) : (s.complete v).rsp = v := rfl
@[simp] theorem State.complete_rx (s : State) (v : RspWord) : (s.complete v).rx = s.rx := rfl
@[simp] theorem State.complete_tx (s : State) (v : RspWord) : (s.complete v).tx = s.tx := rfl
@[simp] theorem State.complete_cmds (s : State) (v : RspWord) : (s.complete v).cmds = s.cmds := rfl
@[simp] theorem State.complete_taken (s : State) (v : RspWord) : (s.complete v).taken = s.taken := rfl
@[simp] theorem State.complete_channel (s : State) (v : RspWord) : (s.complete v).channel = s.channel := rfl
@[simp] theorem State.complete_sched (s : State) (v : RspWord) : (s.complete v).sched = s.sched := rfl
@[simp] theorem State.complete_refetchFiltered (s : State) (v : RspWord) : (s.complete v).refetchFiltered = s.refetchFiltered := rfl
@[simp] theorem State.complete_draws (s : State) (v : RspWord) : (s.complete v).draws = s.draws := rfl

/-! ### takeResponse -/

@[simp] theorem State.takeResponse_op (s : State) : s.takeResponse.op = s.op := rfl
@[simp] theorem State.takeResponse_rspv (s : State) : s.takeResponse.rspv = false := rfl
@[simp] theorem State.takeResponse_tcnt (s : State) : s.takeResponse.tcnt = s.tcnt := rfl
@[simp] theorem State.takeResponse_wn (s : State) : s.takeResponse.wn = s.wn := rfl
@[simp] theorem State.takeResponse_cph (s : State) : s.takeResponse.cph = s.cph := rfl
@[simp] theorem State.takeResponse_w (s : State) : s.takeResponse.w = s.w := rfl
@[simp] theorem State.takeResponse_sv (s : State) : s.takeResponse.sv = s.sv := rfl
@[simp] theorem State.takeResponse_sd (s : State) : s.takeResponse.sd = s.sd := rfl
@[simp] theorem State.takeResponse_taddr (s : State) : s.takeResponse.taddr = s.taddr := rfl
@[simp] theorem State.takeResponse_tdata (s : State) : s.takeResponse.tdata = s.tdata := rfl
@[simp] theorem State.takeResponse_localAddr (s : State) : s.takeResponse.localAddr = s.localAddr := rfl
@[simp] theorem State.takeResponse_rsp (s : State) : s.takeResponse.rsp = s.rsp := rfl
@[simp] theorem State.takeResponse_rx (s : State) : s.takeResponse.rx = s.rx := rfl
@[simp] theorem State.takeResponse_tx (s : State) : s.takeResponse.tx = s.tx := rfl
@[simp] theorem State.takeResponse_cmds (s : State) : s.takeResponse.cmds = s.cmds := rfl
@[simp] theorem State.takeResponse_taken (s : State) : s.takeResponse.taken = s.taken ++ [s.rsp] := rfl
@[simp] theorem State.takeResponse_channel (s : State) : s.takeResponse.channel = s.channel := rfl
@[simp] theorem State.takeResponse_sched (s : State) : s.takeResponse.sched = s.sched := rfl
@[simp] theorem State.takeResponse_refetchFiltered (s : State) : s.takeResponse.refetchFiltered = s.refetchFiltered := rfl
@[simp] theorem State.takeResponse_draws (s : State) : s.takeResponse.draws = s.draws := rfl

/-! ### txPush -/

@[simp] theorem State.txPush_op (s : State) (b : Byte) : (s.txPush b).op = s.op := rfl
@[simp] theorem State.txPush_rspv (s : State) (b : Byte) : (s.txPush b).rspv = s.rspv := rfl
@[simp] theorem State.txPush_tcnt (s : State) (b : Byte) : (s.txPush b).tcnt = s.tcnt := rfl
@[simp] theorem State.txPush_wn (s : State) (b : Byte) : (s.txPush b).wn = s.wn := rfl
@[simp] theorem State.txPush_cph (s : State) (b : Byte) : (s.txPush b).cph = s.cph := rfl
@[simp] theorem State.txPush_w (s : State) (b : Byte) : (s.txPush b).w = s.w := rfl
@[simp] theorem State.txPush_sv (s : State) (b : Byte) : (s.txPush b).sv = s.sv := rfl
@[simp] theorem State.txPush_sd (s : State) (b : Byte) : (s.txPush b).sd = s.sd := rfl
@[simp] theorem State.txPush_taddr (s : State) (b : Byte) : (s.txPush b).taddr = s.taddr := rfl
@[simp] theorem State.txPush_tdata (s : State) (b : Byte) : (s.txPush b).tdata = s.tdata := rfl
@[simp] theorem State.txPush_localAddr (s : State) (b : Byte) : (s.txPush b).localAddr = s.localAddr := rfl
@[simp] theorem State.txPush_rsp (s : State) (b : Byte) : (s.txPush b).rsp = s.rsp := rfl
@[simp] theorem State.txPush_rx (s : State) (b : Byte) : (s.txPush b).rx = s.rx := rfl
@[simp] theorem State.txPush_tx (s : State) (b : Byte) : (s.txPush b).tx = s.tx ++ [b] := rfl
@[simp] theorem State.txPush_cmds (s : State) (b : Byte) : (s.txPush b).cmds = s.cmds := rfl
@[simp] theorem State.txPush_taken (s : State) (b : Byte) : (s.txPush b).taken = s.taken := rfl
@[simp] theorem State.txPush_channel (s : State) (b : Byte) : (s.txPush b).channel = s.channel := rfl
@[simp] theorem State.txPush_sched (s : State) (b : Byte) : (s.txPush b).sched = s.sched := rfl
@[simp] theorem State.txPush_refetchFiltered (s : State) (b : Byte) : (s.txPush b).refetchFiltered = s.refetchFiltered := rfl
@[simp] theorem State.txPush_draws (s : State) (b : Byte) : (s.txPush b).draws = s.draws := rfl

/-! ### recordSlot0 -/

@[simp] theorem State.recordSlot0_op (s : State) (b : Byte) : (s.recordSlot0 b).op = s.op := rfl
@[simp] theorem State.recordSlot0_rspv (s : State) (b : Byte) : (s.recordSlot0 b).rspv = s.rspv := rfl
@[simp] theorem State.recordSlot0_tcnt (s : State) (b : Byte) : (s.recordSlot0 b).tcnt = s.tcnt := rfl
@[simp] theorem State.recordSlot0_wn (s : State) (b : Byte) : (s.recordSlot0 b).wn = s.wn := rfl
@[simp] theorem State.recordSlot0_cph (s : State) (b : Byte) : (s.recordSlot0 b).cph = s.cph := rfl
@[simp] theorem State.recordSlot0_w (s : State) (b : Byte) : (s.recordSlot0 b).w = s.w := rfl
@[simp] theorem State.recordSlot0_sv (s : State) (b : Byte) : (s.recordSlot0 b).sv = fillSlot s.sv 0 := rfl
@[simp] theorem State.recordSlot0_sd (s : State) (b : Byte) : (s.recordSlot0 b).sd = { s.sd with d0 := b } := rfl
@[simp] theorem State.recordSlot0_taddr (s : State) (b : Byte) : (s.recordSlot0 b).taddr = s.taddr := rfl
@[simp] theorem State.recordSlot0_tdata (s : State) (b : Byte) : (s.recordSlot0 b).tdata = s.tdata := rfl
@[simp] theorem State.recordSlot0_localAddr (s : State) (b : Byte) : (s.recordSlot0 b).localAddr = s.localAddr := rfl
@[simp] theorem State.recordSlot0_rsp (s : State) (b : Byte) : (s.recordSlot0 b).rsp = s.rsp := rfl
@[simp] theorem State.recordSlot0_rx (s : State) (b : Byte) : (s.recordSlot0 b).rx = s.rx := rfl
@[simp] theorem State.recordSlot0_tx (s : State) (b : Byte) : (s.recordSlot0 b).tx = s.tx := rfl
@[simp] theorem State.recordSlot0_cmds (s : State) (b : Byte) : (s.recordSlot0 b).cmds = s.cmds := rfl
@[simp] theorem State.recordSlot0_taken (s : State) (b : Byte) : (s.recordSlot0 b).taken = s.taken := rfl
@[simp] theorem State.recordSlot0_channel (s : State) (b : Byte) : (s.recordSlot0 b).channel = s.channel := rfl
@[simp] theorem State.recordSlot0_sched (s : State) (b : Byte) : (s.recordSlot0 b).sched = s.sched := rfl
@[simp] theorem State.recordSlot0_refetchFiltered (s : State) (b : Byte) : (s.recordSlot0 b).refetchFiltered = s.refetchFiltered := rfl
@[simp] theorem State.recordSlot0_draws (s : State) (b : Byte) : (s.recordSlot0 b).draws = s.draws := rfl

/-! ### recordSlot1 -/

@[simp] theorem State.recordSlot1_op (s : State) (b : Byte) : (s.recordSlot1 b).op = s.op := rfl
@[simp] theorem State.recordSlot1_rspv (s : State) (b : Byte) : (s.recordSlot1 b).rspv = s.rspv := rfl
@[simp] theorem State.recordSlot1_tcnt (s : State) (b : Byte) : (s.recordSlot1 b).tcnt = s.tcnt := rfl
@[simp] theorem State.recordSlot1_wn (s : State) (b : Byte) : (s.recordSlot1 b).wn = s.wn := rfl
@[simp] theorem State.recordSlot1_cph (s : State) (b : Byte) : (s.recordSlot1 b).cph = s.cph := rfl
@[simp] theorem State.recordSlot1_w (s : State) (b : Byte) : (s.recordSlot1 b).w = s.w := rfl
@[simp] theorem State.recordSlot1_sv (s : State) (b : Byte) : (s.recordSlot1 b).sv = fillSlot s.sv 1 := rfl
@[simp] theorem State.recordSlot1_sd (s : State) (b : Byte) : (s.recordSlot1 b).sd = { s.sd with d1 := b } := rfl
@[simp] theorem State.recordSlot1_taddr (s : State) (b : Byte) : (s.recordSlot1 b).taddr = s.taddr := rfl
@[simp] theorem State.recordSlot1_tdata (s : State) (b : Byte) : (s.recordSlot1 b).tdata = s.tdata := rfl
@[simp] theorem State.recordSlot1_localAddr (s : State) (b : Byte) : (s.recordSlot1 b).localAddr = s.localAddr := rfl
@[simp] theorem State.recordSlot1_rsp (s : State) (b : Byte) : (s.recordSlot1 b).rsp = s.rsp := rfl
@[simp] theorem State.recordSlot1_rx (s : State) (b : Byte) : (s.recordSlot1 b).rx = s.rx := rfl
@[simp] theorem State.recordSlot1_tx (s : State) (b : Byte) : (s.recordSlot1 b).tx = s.tx := rfl
@[simp] theorem State.recordSlot1_cmds (s : State) (b : Byte) : (s.recordSlot1 b).cmds = s.cmds := rfl
@[simp] theorem State.recordSlot1_taken (s : State) (b : Byte) : (s.recordSlot1 b).taken = s.taken := rfl
@[simp] theorem State.recordSlot1_channel (s : State) (b : Byte) : (s.recordSlot1 b).channel = s.channel := rfl
@[simp] theorem State.recordSlot1_sched (s : State) (b : Byte) : (s.recordSlot1 b).sched = s.sched := rfl
@[simp] theorem State.recordSlot1_refetchFiltered (s : State) (b : Byte) : (s.recordSlot1 b).refetchFiltered = s.refetchFiltered := rfl
@[simp] theorem State.recordSlot1_draws (s : State) (b : Byte) : (s.recordSlot1 b).draws = s.draws := rfl

/-! ### recordSlot2 -/

@[simp] theorem State.recordSlot2_op (s : State) (b : Byte) : (s.recordSlot2 b).op = s.op := rfl
@[simp] theorem State.recordSlot2_rspv (s : State) (b : Byte) : (s.recordSlot2 b).rspv = s.rspv := rfl
@[simp] theorem State.recordSlot2_tcnt (s : State) (b : Byte) : (s.recordSlot2 b).tcnt = s.tcnt := rfl
@[simp] theorem State.recordSlot2_wn (s : State) (b : Byte) : (s.recordSlot2 b).wn = s.wn := rfl
@[simp] theorem State.recordSlot2_cph (s : State) (b : Byte) : (s.recordSlot2 b).cph = s.cph := rfl
@[simp] theorem State.recordSlot2_w (s : State) (b : Byte) : (s.recordSlot2 b).w = s.w := rfl
@[simp] theorem State.recordSlot2_sv (s : State) (b : Byte) : (s.recordSlot2 b).sv = fillSlot s.sv 2 := rfl
@[simp] theorem State.recordSlot2_sd (s : State) (b : Byte) : (s.recordSlot2 b).sd = { s.sd with d2 := b } := rfl
@[simp] theorem State.recordSlot2_taddr (s : State) (b : Byte) : (s.recordSlot2 b).taddr = s.taddr := rfl
@[simp] theorem State.recordSlot2_tdata (s : State) (b : Byte) : (s.recordSlot2 b).tdata = s.tdata := rfl
@[simp] theorem State.recordSlot2_localAddr (s : State) (b : Byte) : (s.recordSlot2 b).localAddr = s.localAddr := rfl
@[simp] theorem State.recordSlot2_rsp (s : State) (b : Byte) : (s.recordSlot2 b).rsp = s.rsp := rfl
@[simp] theorem State.recordSlot2_rx (s : State) (b : Byte) : (s.recordSlot2 b).rx = s.rx := rfl
@[simp] theorem State.recordSlot2_tx (s : State) (b : Byte) : (s.recordSlot2 b).tx = s.tx := rfl
@[simp] theorem State.recordSlot2_cmds (s : State) (b : Byte) : (s.recordSlot2 b).cmds = s.cmds := rfl
@[simp] theorem State.recordSlot2_taken (s : State) (b : Byte) : (s.recordSlot2 b).taken = s.taken := rfl
@[simp] theorem State.recordSlot2_channel (s : State) (b : Byte) : (s.recordSlot2 b).channel = s.channel := rfl
@[simp] theorem State.recordSlot2_sched (s : State) (b : Byte) : (s.recordSlot2 b).sched = s.sched := rfl
@[simp] theorem State.recordSlot2_refetchFiltered (s : State) (b : Byte) : (s.recordSlot2 b).refetchFiltered = s.refetchFiltered := rfl
@[simp] theorem State.recordSlot2_draws (s : State) (b : Byte) : (s.recordSlot2 b).draws = s.draws := rfl

/-! ### hostReset -/

@[simp] theorem State.hostReset_op (s : State) : s.hostReset.op = .idle := rfl
@[simp] theorem State.hostReset_rspv (s : State) : s.hostReset.rspv = false := rfl
@[simp] theorem State.hostReset_tcnt (s : State) : s.hostReset.tcnt = 0#4 := rfl
@[simp] theorem State.hostReset_wn (s : State) : s.hostReset.wn = 0#3 := rfl
@[simp] theorem State.hostReset_cph (s : State) : s.hostReset.cph = .p0 := rfl
@[simp] theorem State.hostReset_sv (s : State) : s.hostReset.sv = 0#3 := rfl
@[simp] theorem State.hostReset_rx (s : State) : s.hostReset.rx = s.rx := rfl
@[simp] theorem State.hostReset_tx (s : State) : s.hostReset.tx = s.tx := rfl
@[simp] theorem State.hostReset_cmds (s : State) : s.hostReset.cmds = s.cmds := rfl
@[simp] theorem State.hostReset_taken (s : State) : s.hostReset.taken = s.taken := rfl
@[simp] theorem State.hostReset_channel (s : State) : s.hostReset.channel = s.channel := rfl
@[simp] theorem State.hostReset_sched (s : State) : s.hostReset.sched = s.sched := rfl
@[simp] theorem State.hostReset_refetchFiltered (s : State) : s.hostReset.refetchFiltered = s.refetchFiltered := rfl
@[simp] theorem State.hostReset_draws (s : State) : s.hostReset.draws = s.draws + 8 := rfl

end Sys2Proof.Machine
end

