-- ==== Sys2Proof/Laws/Ops.lean ====
section
/-! SUPPORT. For each shared operation, one lemma that says once everything it can do; provers cite these instead of
unfolding the operation. -/

namespace Sys2Proof.Machine

theorem State.busy_eq_false_iff (s : State) : s.busy = false ↔ s.op = .idle ∧ s.rspv = false := by
  unfold State.busy
  cases s.op <;> cases s.rspv <;> decide

/-- The accept handshake with an engine that accepts (R101). -/
theorem State.accept_of_idle {s : State} (ho : s.op = .idle) (hr : s.rspv = false) (f : State → State) :
    s.accept f = f s := by
  simp [State.accept, State.busy, ho, hr]

/-- The accept handshake with a busy engine (R102). -/
theorem State.accept_of_busy {s : State} (h : s.busy = true) (f : State → State) : s.accept f = s := by
  simp [State.accept, h]

/-- The window half of an RxStep: below four bytes the byte is stored and counted, else the window shifts (R160). -/
theorem State.windowPush_cases (s : State) (b : Byte) :
    (s.wn < 4#3 ∧ s.windowPush b = s.setWindow (windowSet s.w s.wn b) (s.wn + 1#3)) ∨
    (¬ s.wn < 4#3 ∧ s.windowPush b = s.setWindow (windowShift s.w b) s.wn) := by
  by_cases h : s.wn < 4#3
  · exact .inl ⟨h, by simp [State.windowPush, h]⟩
  · exact .inr ⟨h, by simp [State.windowPush, h]⟩

/-- A window push writes the window and its count, nothing else. -/
theorem State.windowPush_frame (s : State) (b : Byte) :
    s.windowPush b = s.setWindow (s.windowPush b).w (s.windowPush b).wn := by
  rcases s.windowPush_cases b with ⟨-, h⟩ | ⟨-, h⟩ <;> rw [h] <;> rfl

/-- The vote completes the operation with the resolved byte, or with a fresh draw on an empty window (R198, R200). -/
theorem State.completeVote_cases (s : State) :
    (∃ b, resolve s.sv s.sd = some b ∧ s.completeVote = s.complete (packByte b)) ∨
    (resolve s.sv s.sd = none ∧
      s.completeVote = (s.complete (packByte s.drawnByte)).nextDraw) := by
  unfold State.completeVote
  cases h : resolve s.sv s.sd with
  | some b => exact .inl ⟨b, rfl, rfl⟩
  | none => exact .inr ⟨rfl, rfl⟩

/-- The window is empty exactly when no slot is filled. -/
theorem resolve_eq_none_iff (sv : BitVec 3) (sd : SlotData) : resolve sv sd = none ↔ windowNonEmpty sv = false := by
  unfold resolve windowNonEmpty
  cases slotFilled sv 0 <;> cases slotFilled sv 1 <;> cases slotFilled sv 2 <;> simp
  split <;> simp

/-- FilterAccept (R179): complete with the packet, or keep waiting. -/
theorem State.filterAccept_cases (s : State) (p : Packet) :
    (p.address = s.localAddr ∧ s.filterAccept p = s.complete (packPacket p)) ∨
    (p.address ≠ s.localAddr ∧ s.filterAccept p = s) := by
  by_cases h : p.address = s.localAddr
  · exact .inl ⟨h, by simp [State.filterAccept, h]⟩
  · exact .inr ⟨h, by simp [State.filterAccept, h]⟩

/-- CombineAccept (R199): a foreign packet skipped, slot 0 or slot 1 recorded and a further packet awaited, or the vote
held, with slot 2 recorded before it or not. -/
theorem State.combineAccept_cases (s : State) (p : Packet) :
    (p.address ≠ s.localAddr ∧ (s.refetchFiltered = true ∨ s.cph = .p0) ∧ s.combineAccept p = s) ∨
    (p.address = s.localAddr ∧ s.cph = .p0 ∧ p.sequence = 0#3 ∧
      s.combineAccept p = (s.recordSlot0 p.data).setCph .p1) ∨
    (p.address = s.localAddr ∧ (s.cph = .p0 ∨ s.cph = .p1) ∧ p.sequence = 1#3 ∧
      s.combineAccept p = (s.recordSlot1 p.data).setCph .p2) ∨
    (p.address = s.localAddr ∧ p.sequence = 2#3 ∧ s.combineAccept p = (s.recordSlot2 p.data).completeVote) ∨
    (¬ (p.address = s.localAddr ∧ p.sequence = 2#3) ∧ ¬ (p.address = s.localAddr ∧ s.cph = .p0 ∧ p.sequence = 0#3) ∧
      ¬ (p.address = s.localAddr ∧ (s.cph = .p0 ∨ s.cph = .p1) ∧ p.sequence = 1#3) ∧
      (p.address ≠ s.localAddr → s.refetchFiltered = false ∧ s.cph ≠ .p0) ∧
      s.combineAccept p = s.completeVote) := by
  by_cases ha : p.address = s.localAddr
  · by_cases h0 : s.cph = .p0 ∧ p.sequence = 0#3
    · exact .inr (.inl ⟨ha, h0.1, h0.2, by simp [State.combineAccept, ha, h0]⟩)
    · by_cases h1 : (s.cph = .p0 ∨ s.cph = .p1) ∧ p.sequence = 1#3
      · exact .inr (.inr (.inl ⟨ha, h1.1, h1.2, by simp [State.combineAccept, ha, h1]⟩))
      · by_cases h2 : p.sequence = 2#3
        · exact .inr (.inr (.inr (.inl ⟨ha, h2, by simp [State.combineAccept, ha, h2]⟩)))
        · exact .inr (.inr (.inr (.inr ⟨by simp [h2], by simpa [ha] using h0, by simpa [ha] using h1,
            by simp [ha], by simp [State.combineAccept, ha, h0, h1, h2]⟩)))
  · by_cases hf : s.refetchFiltered = true ∨ s.cph = .p0
    · exact .inl ⟨ha, hf, by simp [State.combineAccept, ha, hf]⟩
    · have h0 : s.cph ≠ .p0 := fun h => hf (.inr h)
      have hr : s.refetchFiltered = false := by simpa using fun h => hf (.inl h)
      exact .inr (.inr (.inr (.inr ⟨by simp [ha], by simp [ha], by simp [ha], fun _ => ⟨hr, h0⟩,
        by simp [State.combineAccept, ha, hr, h0]⟩)))

/-- FrameAccept (R161): what a frame does in each operation. -/
theorem State.frameAccept_cases (s : State) (f : Frame) :
    (s.op.receives = false ∧ s.frameAccept f = s) ∨
    (s.op = .scan ∧ s.frameAccept f = s.emptyWindow.complete (packFrame f)) ∨
    (s.op = .recv ∧ s.frameAccept f = s.emptyWindow.complete (packPacket f.packet)) ∨
    (s.op = .filter ∧ s.frameAccept f = s.emptyWindow.filterAccept f.packet) ∨
    (s.op = .combine ∧ s.frameAccept f = s.emptyWindow.combineAccept f.packet) := by
  unfold State.frameAccept
  cases h : s.op <;> simp [Op.receives]

/-- TxStep (R142): one byte pushed, then completion after the twelfth, else the count. -/
theorem State.txStep_cases (s : State) :
    (s.tcnt = 11#4 ∧ s.txStep = (s.txPush (encByte s.taddr s.tdata s.tcnt)).complete 0#32) ∨
    (s.tcnt ≠ 11#4 ∧
      s.txStep = { s.txPush (encByte s.taddr s.tdata s.tcnt) with tcnt := s.tcnt + 1#4 }) := by
  by_cases h : s.tcnt = 11#4
  · exact .inl ⟨h, by simp [State.txStep, h]⟩
  · exact .inr ⟨h, by simp [State.txStep, h]⟩

/-- The vote writes RSP, RSPV, OP and the draw counter, nothing else. -/
theorem State.completeVote_frame (s : State) :
    s.completeVote = { s with rsp := s.completeVote.rsp, rspv := true, op := .idle, draws := s.completeVote.draws } := by
  rcases s.completeVote_cases with ⟨b, -, h⟩ | ⟨-, h⟩ <;> rw [h] <;> rfl

/-- CombineAccept writes SV, SD, CPH and what the vote writes, nothing else. -/
theorem State.combineAccept_frame (s : State) (p : Packet) :
    s.combineAccept p =
      { s with
        sv := (s.combineAccept p).sv, sd := (s.combineAccept p).sd, cph := (s.combineAccept p).cph
        rsp := (s.combineAccept p).rsp, rspv := (s.combineAccept p).rspv, op := (s.combineAccept p).op
        draws := (s.combineAccept p).draws } := by
  rcases s.combineAccept_cases p with ⟨-, -, h⟩ | ⟨-, -, -, h⟩ | ⟨-, -, -, h⟩ | ⟨-, -, h⟩ | ⟨-, -, -, -, h⟩
  · rw [h]
  · rw [h]
    rfl
  · rw [h]
    rfl
  · rw [h, State.completeVote_frame]
    rfl
  · rw [h, State.completeVote_frame]

/-- FrameAccept writes WN, SV, SD, CPH, RSP, RSPV, OP and the draw counter, nothing else: no stream, no port, no latched
operand (R161). -/
theorem State.frameAccept_frame (s : State) (f : Frame) :
    s.frameAccept f =
      { s with
        wn := (s.frameAccept f).wn, sv := (s.frameAccept f).sv, sd := (s.frameAccept f).sd
        cph := (s.frameAccept f).cph, rsp := (s.frameAccept f).rsp, rspv := (s.frameAccept f).rspv
        op := (s.frameAccept f).op, draws := (s.frameAccept f).draws } := by
  rcases s.frameAccept_cases f with ⟨-, h⟩ | ⟨-, h⟩ | ⟨-, h⟩ | ⟨-, h⟩ | ⟨-, h⟩
  · rw [h]
  · rw [h]
    rfl
  · rw [h]
    rfl
  · rw [h]
    rcases s.emptyWindow.filterAccept_cases f.packet with ⟨-, h'⟩ | ⟨-, h'⟩ <;> rw [h'] <;> rfl
  · rw [h, State.combineAccept_frame]
    rfl

/-- FrameAccept leaves the window empty if a receive operation takes the frame (R160). -/
theorem State.frameAccept_wn (s : State) (f : Frame) (h : s.op.receives = true) : (s.frameAccept f).wn = 0#3 := by
  rcases s.frameAccept_cases f with ⟨h', -⟩ | ⟨-, h'⟩ | ⟨-, h'⟩ | ⟨-, h'⟩ | ⟨-, h'⟩
  · simp [h] at h'
  · rw [h']
    rfl
  · rw [h']
    rfl
  · rw [h']
    rcases s.emptyWindow.filterAccept_cases f.packet with ⟨-, h''⟩ | ⟨-, h''⟩ <;> rw [h''] <;> rfl
  · rw [h', State.combineAccept_frame]
    rfl

end Sys2Proof.Machine
end

