-- ==== Sys2Proof/Laws/PerInstr.lean ====
section
/-! SUPPORT. Statements for all instructions, one lemma for each constructor. EncodesItsRow: what an instruction is
encoded as has the fixed bits of its row of spec/opcode_table.json (the row's mask and match, 30_encoding.md R86). -/

namespace Sys2Proof.Laws

/-- A command word lies in a row: the row's mask is 0xE000 (R76). -/
def EncodesItsRow.commandIn (matchBits : CmdWord) : Code → Prop
  | .command c => c &&& 0xE000#16 = matchBits
  | .frame _ => False

/-- Four bytes lie in the FRAME row of a sequence value: the row's mask is 0xFF070000, offset 0 highest (R86). -/
def EncodesItsRow.frameIn (q : Byte) : Code → Prop
  | .command _ => False
  | .frame f => f.b0 &&& 0xFF#8 = 0xAA#8 ∧ f.b1 &&& 0x07#8 = q

/-- The fixed bits of an instruction's row stand in its encoding. -/
def EncodesItsRow.Statement (i : Instr) : Prop :=
  match i with
  | .frameSeq0 _ _ _ => EncodesItsRow.frameIn 0#8 (Sys2Proof.encode i)
  | .frameSeq1 _ _ _ => EncodesItsRow.frameIn 1#8 (Sys2Proof.encode i)
  | .frameSeq2 _ _ _ => EncodesItsRow.frameIn 2#8 (Sys2Proof.encode i)
  | .frameSeq3 _ _ _ => EncodesItsRow.frameIn 3#8 (Sys2Proof.encode i)
  | .frameSeq4 _ _ _ => EncodesItsRow.frameIn 4#8 (Sys2Proof.encode i)
  | .frameSeq5 _ _ _ => EncodesItsRow.frameIn 5#8 (Sys2Proof.encode i)
  | .frameSeq6 _ _ _ => EncodesItsRow.frameIn 6#8 (Sys2Proof.encode i)
  | .frameSeq7 _ _ _ => EncodesItsRow.frameIn 7#8 (Sys2Proof.encode i)
  | .nop => EncodesItsRow.commandIn 0x0000#16 (Sys2Proof.encode i)
  | .encode _ _ => EncodesItsRow.commandIn 0x2000#16 (Sys2Proof.encode i)
  | .scan => EncodesItsRow.commandIn 0x4000#16 (Sys2Proof.encode i)
  | .recv => EncodesItsRow.commandIn 0x6000#16 (Sys2Proof.encode i)
  | .filter _ => EncodesItsRow.commandIn 0x8000#16 (Sys2Proof.encode i)
  | .combine _ => EncodesItsRow.commandIn 0xA000#16 (Sys2Proof.encode i)
  | .reserved6 => EncodesItsRow.commandIn 0xC000#16 (Sys2Proof.encode i)
  | .reserved7 => EncodesItsRow.commandIn 0xE000#16 (Sys2Proof.encode i)

/-- The sequence bits of `addrSeq` are the sequence. -/
theorem addrSeq_low (a : Addr) (q : Seq) : addrSeq a q &&& 0x07#8 = q.setWidth 8 := by
  revert q
  revert a
  decide

/-- The mask of a FRAME row, applied to the four bytes of that row. -/
theorem frameIn_wireFrame (a : Addr) (q : Seq) (d c : Byte) :
    EncodesItsRow.frameIn (q.setWidth 8) (.frame (wireFrame a q d c)) :=
  ⟨by simp, addrSeq_low a q⟩

/-- The mask of a command row leaves the opcode bits. -/
theorem commandIn_commandWord (o : BitVec 3) (a : Addr) (d : Byte) :
    EncodesItsRow.commandIn (commandWord o 0#5 0#8) (.command (commandWord o a d)) := by
  show commandWord o a d &&& 0xE000#16 = commandWord o 0#5 0#8
  unfold commandWord
  have h : (0xE000#16 : BitVec 16) = (7#3 ++ 0#5) ++ 0#8 := by decide
  have h7 : o &&& 7#3 = o := by revert o; decide
  rw [h, BitVec.and_append, BitVec.and_append, h7]
  simp

theorem EncodesItsRow.frameSeq0 (a : Addr) (d c : Byte) : EncodesItsRow.Statement (.frameSeq0 a d c) :=
  frameIn_wireFrame a 0#3 d c
theorem EncodesItsRow.frameSeq1 (a : Addr) (d c : Byte) : EncodesItsRow.Statement (.frameSeq1 a d c) :=
  frameIn_wireFrame a 1#3 d c
theorem EncodesItsRow.frameSeq2 (a : Addr) (d c : Byte) : EncodesItsRow.Statement (.frameSeq2 a d c) :=
  frameIn_wireFrame a 2#3 d c
theorem EncodesItsRow.frameSeq3 (a : Addr) (d c : Byte) : EncodesItsRow.Statement (.frameSeq3 a d c) :=
  frameIn_wireFrame a 3#3 d c
theorem EncodesItsRow.frameSeq4 (a : Addr) (d c : Byte) : EncodesItsRow.Statement (.frameSeq4 a d c) :=
  frameIn_wireFrame a 4#3 d c
theorem EncodesItsRow.frameSeq5 (a : Addr) (d c : Byte) : EncodesItsRow.Statement (.frameSeq5 a d c) :=
  frameIn_wireFrame a 5#3 d c
theorem EncodesItsRow.frameSeq6 (a : Addr) (d c : Byte) : EncodesItsRow.Statement (.frameSeq6 a d c) :=
  frameIn_wireFrame a 6#3 d c
theorem EncodesItsRow.frameSeq7 (a : Addr) (d c : Byte) : EncodesItsRow.Statement (.frameSeq7 a d c) :=
  frameIn_wireFrame a 7#3 d c
theorem EncodesItsRow.nop : EncodesItsRow.Statement .nop := commandIn_commandWord 0#3 0#5 0#8
theorem EncodesItsRow.encode (a : Addr) (d : Byte) : EncodesItsRow.Statement (.encode a d) :=
  commandIn_commandWord 1#3 a d
theorem EncodesItsRow.scan : EncodesItsRow.Statement .scan := commandIn_commandWord 2#3 0#5 0#8
theorem EncodesItsRow.recv : EncodesItsRow.Statement .recv := commandIn_commandWord 3#3 0#5 0#8
theorem EncodesItsRow.filter (a : Addr) : EncodesItsRow.Statement (.filter a) := commandIn_commandWord 4#3 a 0#8
theorem EncodesItsRow.combine (a : Addr) : EncodesItsRow.Statement (.combine a) := commandIn_commandWord 5#3 a 0#8
theorem EncodesItsRow.reserved6 : EncodesItsRow.Statement .reserved6 := commandIn_commandWord 6#3 0#5 0#8
theorem EncodesItsRow.reserved7 : EncodesItsRow.Statement .reserved7 := commandIn_commandWord 7#3 0#5 0#8

end Sys2Proof.Laws
end

