-- ==== Sys2Proof/Laws/Step.lean ====
section
/-! SUPPORT. What a step can do, once: the inversion lemmas of fetch and step, from which an invariant is proved
without unfolding the step function. -/

namespace Sys2Proof.Machine

/-- A command row's meaning: what the accept step does, if the instruction is a command (R101). -/
def commandEffect : Instr → Option (State → State)
  | .frameSeq0 _ _ _ => none
  | .frameSeq1 _ _ _ => none
  | .frameSeq2 _ _ _ => none
  | .frameSeq3 _ _ _ => none
  | .frameSeq4 _ _ _ => none
  | .frameSeq5 _ _ _ => none
  | .frameSeq6 _ _ _ => none
  | .frameSeq7 _ _ _ => none
  | .nop => some fun t => t.complete 0#32
  | .encode a d => some fun t => { t with taddr := a, tdata := d, tcnt := 0#4, op := .encode }
  | .scan => some fun t => { t with wn := 0#3, op := .scan }
  | .recv => some fun t => { t with wn := 0#3, op := .recv }
  | .filter a => some fun t => { t with localAddr := a, wn := 0#3, op := .filter }
  | .combine a => some fun t => { t with localAddr := a, wn := 0#3, sv := 0#3, cph := .p0, op := .combine }
  | .reserved6 => some fun t => t.complete 0#32
  | .reserved7 => some fun t => t.complete 0#32

/-- A FRAME row of any sequence runs FrameAccept on its four bytes (R86, R161). -/
theorem exec_ofSeq (q : Seq) (a : Addr) (d c : Byte) (s : State) :
    exec (Instr.ofSeq q a d c) s = .next (s.frameAccept (wireFrame a q d c)) := by
  rcases ofSeq_cases q a d c with ⟨hq, h⟩ | ⟨hq, h⟩ | ⟨hq, h⟩ | ⟨hq, h⟩ | ⟨hq, h⟩ | ⟨hq, h⟩ | ⟨hq, h⟩ | ⟨hq, h⟩ <;>
    rw [h, hq] <;> rfl

/-- A command row runs its accept step (R101). -/
theorem exec_command (i : Instr) (f : State → State) (h : commandEffect i = some f) (s : State) :
    exec i s = .next (s.accept f) := by
  cases i <;> simp only [commandEffect, Option.some.injEq, reduceCtorEq] at h <;> subst h <;> rfl

/-- Every command word decodes to a command row. -/
theorem commandEffect_decodeCommand (c : CmdWord) : ∃ f, commandEffect (decodeCommand c) = some f := by
  unfold decodeCommand
  split <;> exact ⟨_, rfl⟩

/-- A decoded window runs FrameAccept on the window itself (R160, R161). -/
theorem exec_of_decodeFrame {f : Frame} {i : Instr} (h : decodeFrame f = .ok i) (s : State) :
    f.valid = true ∧ exec i s = .next (s.frameAccept f) := by
  rw [decodeFrame_eq] at h
  split at h
  · cases h
  · rename_i h0
    split at h
    · cases h
    · rename_i h1
      have hv : f.valid = true := (valid_iff f).2 ⟨not_not.1 h0, not_not.1 h1⟩
      cases h
      exact ⟨hv, by rw [exec_ofSeq, wireFrame_of_valid f hv]⟩

/-- A window is rejected only when it is not valid (R78). -/
theorem not_valid_of_decodeFrame {f : Frame} {e : DecodeError} (h : decodeFrame f = .error e) : f.valid = false := by
  rw [decodeFrame_eq] at h
  by_contra hv
  obtain ⟨h0, h1⟩ := (valid_iff f).1 (by simpa using hv)
  simp [h0, h1] at h

/-- A valid window decodes (R86). -/
theorem decodeFrame_of_valid {f : Frame} (h : f.valid = true) :
    decodeFrame f = .ok (Instr.ofSeq f.packet.sequence f.packet.address f.packet.data f.b3) := by
  obtain ⟨h0, h1⟩ := (valid_iff f).1 h
  simp [decodeFrame_eq, h0, h1]

/-- The receive step with a byte to pull and an enabled channel, whole (R160, R161). -/
def State.rxStep (s : State) (b : Byte) (rest : RxStream) : State :=
  if ((s.setRx rest).windowPush b).wn = 4#3 ∧ ((s.setRx rest).windowPush b).w.valid = true then
    ((s.setRx rest).windowPush b).frameAccept ((s.setRx rest).windowPush b).w
  else (s.setRx rest).windowPush b

/-- What an engine with host and channel ready can do in one step: one constructor for each kind of step of R35, and
one for each state with no enabled step (R262). -/
inductive ReadyStep : State → State → Prop where
  | takeResponse {s : State} (ho : s.op = .idle) (hr : s.rspv = true) : ReadyStep s s.takeResponse
  | quiescent {s : State} (ho : s.op = .idle) (hr : s.rspv = false) (hc : s.cmds = []) : ReadyStep s s
  | accept {s : State} (ho : s.op = .idle) (hr : s.rspv = false) (c : CmdWord) (rest : List CmdWord)
      (f : State → State) (hc : s.cmds = c :: rest) (hf : commandEffect (decodeCommand c) = some f) :
      ReadyStep s (f (s.setCmds rest))
  | transmit {s : State} (ho : s.op = .encode) (hch : s.channel.transmitRefusal = none) : ReadyStep s s.txStep
  | blocked {s : State} (ho : s.op.receives = true) (hx : s.rx.pull = none) : ReadyStep s s
  | receive {s : State} (ho : s.op.receives = true) (hch : s.channel.receiveRefusal = none) (b : Byte)
      (rest : RxStream) (hx : s.rx.pull = some (b, rest)) : ReadyStep s (s.rxStep b rest)

/-- A receive step with a byte to pull is `rxStep` (R160). -/
theorem fetchByte_outcome (s : State) :
    (s.rx.pull = none ∧ s.fetchByte.outcome = .next s) ∨
    (∃ b rest, s.rx.pull = some (b, rest) ∧ s.channel.receiveRefusal = none ∧
      s.fetchByte.outcome = .next (s.rxStep b rest)) ∨
    (∃ b rest r, s.rx.pull = some (b, rest) ∧ s.channel.receiveRefusal = some r ∧
      s.fetchByte.outcome = .refused r) := by
  unfold State.fetchByte
  cases hx : s.rx.pull with
  | none => exact .inl ⟨rfl, rfl⟩
  | some pulled =>
    obtain ⟨b, rest⟩ := pulled
    cases hr : s.channel.receiveRefusal with
    | some r => exact .inr (.inr ⟨b, rest, r, rfl, rfl, rfl⟩)
    | none =>
      refine .inr (.inl ⟨b, rest, rfl, rfl, ?_⟩)
      unfold State.rxStep
      by_cases h4 : ((s.setRx rest).windowPush b).wn = 4#3
      · cases hd : decodeFrame ((s.setRx rest).windowPush b).w with
        | ok i =>
          obtain ⟨hv, he⟩ := exec_of_decodeFrame hd ((s.setRx rest).windowPush b)
          simp [h4, hd, hv, Fetched.outcome, he]
        | error e =>
          simp [h4, hd, not_valid_of_decodeFrame hd, Fetched.outcome]
      · simp [h4, Fetched.outcome]

/-- The fetch of an engine with host and channel ready: a ReadyStep, or a refusal of the channel's (R35, R253). -/
theorem fetchReady_outcome (s : State) :
    (∃ t, s.fetchReady.outcome = .next t ∧ ReadyStep s t) ∨
    (∃ r, s.fetchReady.outcome = .refused r ∧
      (s.channel.transmitRefusal = some r ∨ s.channel.receiveRefusal = some r)) := by
  have receive : s.op.receives = true → s.fetchReady = s.fetchByte →
      (∃ t, s.fetchReady.outcome = .next t ∧ ReadyStep s t) ∨
      (∃ r, s.fetchReady.outcome = .refused r ∧
        (s.channel.transmitRefusal = some r ∨ s.channel.receiveRefusal = some r)) := by
    intro ho hf
    rw [hf]
    rcases fetchByte_outcome s with ⟨hx, h⟩ | ⟨b, rest, hx, hch, h⟩ | ⟨b, rest, r, hx, hch, h⟩
    · exact .inl ⟨s, h, .blocked ho hx⟩
    · exact .inl ⟨_, h, .receive ho hch b rest hx⟩
    · exact .inr ⟨r, h, .inr hch⟩
  cases ho : s.op with
  | idle =>
    cases hr : s.rspv with
    | true => exact .inl ⟨s.takeResponse, by simp [State.fetchReady, ho, hr, Fetched.outcome], .takeResponse ho hr⟩
    | false =>
      cases hc : s.cmds with
      | nil => exact .inl ⟨s, by simp [State.fetchReady, ho, hr, hc, Fetched.outcome], .quiescent ho hr hc⟩
      | cons c rest =>
        obtain ⟨f, hf⟩ := commandEffect_decodeCommand c
        refine .inl ⟨f (s.setCmds rest), ?_, .accept ho hr c rest f hc hf⟩
        simp only [State.fetchReady, ho, hr, hc, Fetched.outcome, Bool.false_eq_true, if_false, exec_command _ f hf]
        rw [State.accept_of_idle (by simpa using ho) (by simpa using hr)]
  | encode =>
    cases hch : s.channel.transmitRefusal with
    | none => exact .inl ⟨s.txStep, by simp [State.fetchReady, ho, hch, Fetched.outcome], .transmit ho hch⟩
    | some r => exact .inr ⟨r, by simp [State.fetchReady, ho, hch, Fetched.outcome], .inl rfl⟩
  | scan => exact receive (by rw [ho]; rfl) (by simp [State.fetchReady, ho])
  | recv => exact receive (by rw [ho]; rfl) (by simp [State.fetchReady, ho])
  | filter => exact receive (by rw [ho]; rfl) (by simp [State.fetchReady, ho])
  | combine => exact receive (by rw [ho]; rfl) (by simp [State.fetchReady, ho])

/-- The inversion lemma of step: what every next state is. -/
theorem step_cases {s t : State} (h : step s = .next t) :
    (s.sched = [] ∧ ReadyStep s t) ∨
    (∃ turns, s.sched = .ready :: turns ∧ ReadyStep (s.setSched turns) t) ∨
    (∃ turns, s.sched = .wait :: turns ∧ t = s.setSched turns) ∨
    (∃ turns, s.sched = .reset :: turns ∧ t = (s.setSched turns).hostReset) ∨
    (∃ tx rx turns, s.sched = .openChannel tx rx :: turns ∧ s.channel = .closed ∧
      t = { s with sched := turns, channel := .opened tx rx }) := by
  have ready : ∀ u : State, u.fetchReady.outcome = .next t → ReadyStep u t := by
    intro u hu
    rcases fetchReady_outcome u with ⟨t', ht, hstep⟩ | ⟨r, hr, -⟩
    · rw [ht] at hu
      cases hu
      exact hstep
    · rw [hr] at hu
      cases hu
  unfold step State.fetch at h
  match hs : s.sched with
  | [] =>
    simp only [hs] at h
    exact .inl ⟨rfl, ready s h⟩
  | .ready :: turns =>
    simp only [hs] at h
    exact .inr (.inl ⟨turns, rfl, ready _ h⟩)
  | .wait :: turns =>
    simp only [hs, Fetched.outcome, Host.Outcome.next.injEq] at h
    exact .inr (.inr (.inl ⟨turns, rfl, h.symm⟩))
  | .reset :: turns =>
    simp only [hs, Fetched.outcome, Host.Outcome.next.injEq] at h
    exact .inr (.inr (.inr (.inl ⟨turns, rfl, h.symm⟩)))
  | .openChannel tx rx :: turns =>
    cases hc : s.channel with
    | opened x y => simp [hs, hc, Fetched.outcome] at h
    | closed =>
      simp only [hs, hc, Fetched.outcome, Host.Outcome.next.injEq] at h
      exact .inr (.inr (.inr (.inr ⟨tx, rx, turns, rfl, rfl, h.symm⟩)))

/-- With an empty schedule a step is the ready step (log 1). -/
theorem step_of_ready {s : State} (hs : s.sched = []) : step s = s.fetchReady.outcome := by
  simp [step, State.fetch, hs]

/-- With host and channel ready a step is the ready step of the state with the turn taken (log 1). -/
theorem step_of_readyThen {s : State} {turns : List Turn} (h : s.readyThen turns) :
    step s = (s.setSched turns).fetchReady.outcome := by
  rcases h with ⟨hs, rfl⟩ | hs
  · rw [step_of_ready hs, show s.setSched [] = s by rw [← hs]; rfl]
  · simp [step, State.fetch, hs]

/-- A receive operation's fetch is `fetchByte` (R35). -/
theorem fetchReady_of_receives {s : State} (ho : s.op.receives = true) : s.fetchReady = s.fetchByte := by
  cases h : s.op <;> simp [State.fetchReady, h, Op.receives] at ho ⊢

/-- A receive operation with a byte to pull and an enabled channel takes `rxStep`, whatever is left of the schedule
(R160). -/
theorem step_receive_of_readyThen {s : State} {turns : List Turn} (h : s.readyThen turns)
    (ho : s.op.receives = true) {b : Byte} {rest : RxStream} (hx : s.rx.pull = some (b, rest))
    (hch : s.channel.receiveRefusal = none) : step s = .next ((s.setSched turns).rxStep b rest) := by
  rw [step_of_readyThen h, fetchReady_of_receives (by simpa using ho)]
  rcases fetchByte_outcome (s.setSched turns) with ⟨hx', -⟩ | ⟨b', rest', hx', -, h⟩ | ⟨b', rest', r, -, hch', -⟩
  · simp [hx] at hx'
  · rw [State.setSched_rx, hx] at hx'
    cases hx'
    exact h
  · simp [hch] at hch'

/-- A receive operation with a byte to pull and an enabled channel takes `rxStep` (R160). -/
theorem step_receive {s : State} (hs : s.sched = []) (ho : s.op.receives = true) {b : Byte} {rest : RxStream}
    (hx : s.rx.pull = some (b, rest)) (hch : s.channel.receiveRefusal = none) : step s = .next (s.rxStep b rest) := by
  rw [step_receive_of_readyThen (.inl ⟨hs, rfl⟩) ho hx hch, show s.setSched [] = s by rw [← hs]; rfl]

end Sys2Proof.Machine
end

