-- ==== Sys2Proof/Laws/Stream.lean ====
section
/-! SUPPORT. The receive stream and the stream functions: what a pull answers, what the beginnings of a stream are, and
what a scan or a RECV consumes. -/

namespace Sys2Proof.Machine

/-! ### Pulls (R52) -/

@[simp] theorem RxStream.pull_cons (b : Byte) (bytes : List Byte) (tail : RxTail) :
    ({ listed := b :: bytes, tail := tail } : RxStream).pull = some (b, { listed := bytes, tail := tail }) := rfl

@[simp] theorem RxStream.pull_ends : ({ listed := [], tail := .ends } : RxStream).pull = none := rfl

@[simp] theorem RxStream.pull_endless (k n : Nat) :
    ({ listed := [], tail := .endless k n } : RxStream).pull =
      some (Config.rxByte k n, { listed := [], tail := .endless k (n + 1) }) := rfl

/-- A stream has no next byte exactly when nothing is listed and it ends there (R52). -/
theorem RxStream.pull_eq_none_iff (x : RxStream) : x.pull = none ↔ x = { listed := [], tail := .ends } := by
  obtain ⟨bytes, tail⟩ := x
  cases bytes <;> cases tail <;> simp [RxStream.pull]

@[simp] theorem RxStream.push_listed (x : RxStream) (b : Byte) : (x.push b).listed = b :: x.listed := rfl
@[simp] theorem RxStream.push_tail (x : RxStream) (b : Byte) : (x.push b).tail = x.tail := rfl
@[simp] theorem RxStream.pull_push (x : RxStream) (b : Byte) : (x.push b).pull = some (b, x) := rfl

/-! ### Beginnings of a stream -/

@[simp] theorem RxStream.first_zero (x : RxStream) : x.first 0 = [] := rfl
@[simp] theorem RxStream.drop_zero (x : RxStream) : x.drop 0 = x := rfl

theorem RxStream.first_of_pull {x y : RxStream} {b : Byte} (h : x.pull = some (b, y)) (n : Nat) :
    x.first (n + 1) = b :: y.first n := by
  simp [RxStream.first, h]

theorem RxStream.drop_of_pull {x y : RxStream} {b : Byte} (h : x.pull = some (b, y)) (n : Nat) :
    x.drop (n + 1) = y.drop n := by
  simp [RxStream.drop, h]

theorem RxStream.first_of_pull_none {x : RxStream} (h : x.pull = none) (n : Nat) : x.first n = [] := by
  cases n <;> simp [RxStream.first, h]

theorem RxStream.drop_of_pull_none {x : RxStream} (h : x.pull = none) (n : Nat) : x.drop n = x := by
  cases n <;> simp [RxStream.drop, h]

theorem RxStream.length_first_le (n : Nat) (x : RxStream) : (x.first n).length ≤ n := by
  induction n generalizing x with
  | zero => simp
  | succ n ih =>
    cases h : x.pull with
    | none => simp [x.first_of_pull_none h]
    | some pulled =>
      obtain ⟨b, y⟩ := pulled
      simpa [RxStream.first_of_pull h] using ih y

/-- A finite stream's beginnings are those of its bytes. -/
theorem RxStream.first_ends (n : Nat) (bytes : List Byte) :
    ({ listed := bytes, tail := .ends } : RxStream).first n = bytes.take n := by
  induction n generalizing bytes with
  | zero => simp
  | succ n ih => cases bytes <;> simp [RxStream.first, ih]

/-- A finite stream with bytes pulled is the rest of its bytes. -/
theorem RxStream.drop_ends (n : Nat) (bytes : List Byte) :
    ({ listed := bytes, tail := .ends } : RxStream).drop n = { listed := bytes.drop n, tail := .ends } := by
  induction n generalizing bytes with
  | zero => simp
  | succ n ih => cases bytes <;> simp [RxStream.drop, ih]

/-- Pulling on after some pulls. -/
theorem RxStream.drop_drop (m n : Nat) (x : RxStream) : (x.drop m).drop n = x.drop (m + n) := by
  induction m generalizing x with
  | zero => simp
  | succ m ih =>
    rw [Nat.succ_add]
    cases h : x.pull with
    | none => simp [x.drop_of_pull_none h]
    | some pulled =>
      obtain ⟨b, y⟩ := pulled
      rw [RxStream.drop_of_pull h, RxStream.drop_of_pull h, ih]

/-- The bytes behind the first ones are the first ones of what is behind. -/
theorem RxStream.first_drop (m n : Nat) (x : RxStream) : (x.drop m).first n = (x.first (m + n)).drop m := by
  induction m generalizing x with
  | zero => simp
  | succ m ih =>
    rw [Nat.succ_add]
    cases h : x.pull with
    | none => simp [x.drop_of_pull_none h, x.first_of_pull_none h]
    | some pulled =>
      obtain ⟨b, y⟩ := pulled
      rw [RxStream.drop_of_pull h, RxStream.first_of_pull h, ih, List.drop_succ_cons]

/-! ### What a scan and a RECV consume -/

/-- A scan consumes at least the four bytes of its frame (R157). -/
theorem streamScan_length : ∀ {bytes : List Byte} {f : Frame} {rest : List Byte},
    streamScan bytes = some (f, rest) → rest.length + 4 ≤ bytes.length
  | [], _, _, h => by simp [streamScan] at h
  | [_], _, _, h => by simp [streamScan] at h
  | [_, _], _, _, h => by simp [streamScan] at h
  | [_, _, _], _, _, h => by simp [streamScan] at h
  | b0 :: b1 :: b2 :: b3 :: tl, f, rest, h => by
    unfold streamScan at h
    split at h
    · cases h
      simp
    · have := streamScan_length (bytes := b1 :: b2 :: b3 :: tl) h
      simp only [List.length_cons] at this ⊢
      omega

/-- RECV is SCAN followed by Decode (R162). -/
theorem streamRecv_eq_some_iff {bytes rest : List Byte} {p : Packet} :
    streamRecv bytes = some (p, rest) ↔ ∃ f, streamScan bytes = some (f, rest) ∧ f.packet = p := by
  unfold streamRecv
  cases h : streamScan bytes with
  | none => simp
  | some found =>
    obtain ⟨f, r⟩ := found
    simp only [Option.some.injEq, Prod.mk.injEq]
    constructor
    · rintro ⟨hp, hr⟩
      exact ⟨f, ⟨rfl, hr⟩, hp⟩
    · rintro ⟨g, ⟨hg, hr⟩, hp⟩
      exact ⟨by rw [hg, hp], hr⟩

/-- RECV blocks exactly when SCAN does (R162). -/
theorem streamRecv_eq_none_iff {bytes : List Byte} : streamRecv bytes = none ↔ streamScan bytes = none := by
  unfold streamRecv
  cases streamScan bytes <;> simp

/-- A RECV consumes at least the four bytes of its frame (R162). -/
theorem streamRecv_length {bytes rest : List Byte} {p : Packet} (h : streamRecv bytes = some (p, rest)) :
    rest.length + 4 ≤ bytes.length := by
  obtain ⟨f, hf, -⟩ := streamRecv_eq_some_iff.1 h
  exact streamScan_length hf

end Sys2Proof.Machine
end

