-- ==== Sys2Proof/Tests/Slice0.lean ====
section
/-! SUPPORT. Tests on fixed values, their expected results taken from spec/95_test_vectors.md and the rules' worked
examples (the vector or rule is named at each), and for every statement with hypotheses a concrete state that meets
them, one for each clause. -/

namespace Sys2Proof.Tests

open Sys2Proof Sys2Proof.Machine

/-! ### Helpers -/

/-- The next state of an outcome. -/
def nextOf (o : Host.Outcome State Fault Refusal) : Option State :=
  match o with
  | .next t => some t
  | .fault _ => none
  | .refused _ => none

/-- The refusal of an outcome. -/
def refusalOf (o : Host.Outcome State Fault Refusal) : Option Refusal :=
  match o with
  | .next _ => none
  | .fault _ => none
  | .refused r => some r

/-- The reset state with the command word `c` offered. -/
def offering (c : CmdWord) : State := { State.reset with cmds := [c] }

/-- The finite receive stream of some bytes. -/
def ending (bytes : List Byte) : RxStream := { listed := bytes, tail := .ends }

/-- Some bytes, and behind them a stream that never ends. -/
def unending (bytes : List Byte) : RxStream := { listed := bytes, tail := .endless 0 0 }

/-- The reset state with an operation in progress and a finite receive stream. -/
def during (o : Op) (bytes : List Byte) : State := { State.reset with op := o, rx := ending bytes }

/-- A receive operation that has three window bytes and one byte to pull. -/
def atFourth (o : Op) (b0 b1 b2 b3 : Byte) : State :=
  { State.reset with op := o, rx := ending [b3], wn := 3#3, w := { b0 := b0, b1 := b1, b2 := b2, b3 := 0#8 } }

/-- A COMBINE for address 3 at a phase. -/
def voting (p : Phase) (sv : BitVec 3) (sd : SlotData) : State :=
  { State.reset with op := .combine, localAddr := 3#5, cph := p, sv := sv, sd := sd }

/-- The two halves of a completion. -/
def result (t : State) : RspWord × Bool × Op := (t.rsp, t.rspv, t.op)

/-! ### WellFormed: each check refuses an ill-formed term (R120) -/

theorem test_wf_seq0 : (Instr.frameSeq0 3#5 42#8 0x32#8).wellFormed = true ∧
    (Instr.frameSeq0 3#5 42#8 0x33#8).wellFormed = false := by decide
theorem test_wf_seq1 : (Instr.frameSeq1 3#5 42#8 0x33#8).wellFormed = true ∧
    (Instr.frameSeq1 3#5 42#8 0x32#8).wellFormed = false := by decide
theorem test_wf_seq2 : (Instr.frameSeq2 3#5 42#8 0x30#8).wellFormed = true ∧
    (Instr.frameSeq2 3#5 42#8 0x32#8).wellFormed = false := by decide
theorem test_wf_seq3 : (Instr.frameSeq3 3#5 9#8 0x12#8).wellFormed = true ∧
    (Instr.frameSeq3 3#5 9#8 0x13#8).wellFormed = false := by decide
theorem test_wf_seq4 : (Instr.frameSeq4 3#5 9#8 0x15#8).wellFormed = true ∧
    (Instr.frameSeq4 3#5 9#8 0x14#8).wellFormed = false := by decide
theorem test_wf_seq5 : (Instr.frameSeq5 3#5 9#8 0x14#8).wellFormed = true ∧
    (Instr.frameSeq5 3#5 9#8 0x15#8).wellFormed = false := by decide
theorem test_wf_seq6 : (Instr.frameSeq6 3#5 9#8 0x17#8).wellFormed = true ∧
    (Instr.frameSeq6 3#5 9#8 0x16#8).wellFormed = false := by decide
theorem test_wf_seq7 : (Instr.frameSeq7 31#5 255#8 0#8).wellFormed = true ∧
    (Instr.frameSeq7 31#5 255#8 1#8).wellFormed = false := by decide

/-- The notation's operand ranges (R84): 31 and 255 are in, 32 and 256 are refused (R147). -/
theorem test_wf_notation :
    (Notation.encode 31 255).wellFormed = true ∧ (Notation.encode 32 0).wellFormed = false ∧
    (Notation.encode 0 256).wellFormed = false ∧ (Notation.filter 31).wellFormed = true ∧
    (Notation.filter 32).wellFormed = false ∧ (Notation.combine 31).wellFormed = true ∧
    (Notation.combine 32).wellFormed = false := by decide

/-! ### Decode: one word for every constructor, written out from its encoding (R70, R76; section 8 of the vectors) -/

theorem test_decode_seq0 : -- AA 18 2A 32 (V2.1)
    decodeTableWord 32 0b10101010_00011_000_00101010_00110010 = some (.frameSeq0 3#5 42#8 0x32#8) := by decide
theorem test_decode_seq1 : -- AA 51 99 C8 (V2.8)
    decodeTableWord 32 0b10101010_01010_001_10011001_11001000 = some (.frameSeq1 10#5 0x99#8 0xC8#8) := by decide
theorem test_decode_seq2 : -- AA AA AA 00 (V2.6)
    decodeTableWord 32 0b10101010_10101_010_10101010_00000000 = some (.frameSeq2 21#5 0xAA#8 0#8) := by decide
theorem test_decode_seq3 : -- AA 1B 09 12 (V7.17)
    decodeTableWord 32 0b10101010_00011_011_00001001_00010010 = some (.frameSeq3 3#5 9#8 0x12#8) := by decide
theorem test_decode_seq4 : -- AA 1C 09 15 (V7.15)
    decodeTableWord 32 0b10101010_00011_100_00001001_00010101 = some (.frameSeq4 3#5 9#8 0x15#8) := by decide
theorem test_decode_seq5 : -- AA 1D 09 14 (V7.16)
    decodeTableWord 32 0b10101010_00011_101_00001001_00010100 = some (.frameSeq5 3#5 9#8 0x14#8) := by decide
theorem test_decode_seq6 : -- AA 1E 09 17, by hand from R70: 1E XOR 09 = 17
    decodeTableWord 32 0b10101010_00011_110_00001001_00010111 = some (.frameSeq6 3#5 9#8 0x17#8) := by decide
theorem test_decode_seq7 : -- AA FF FF 00 (V2.14)
    decodeTableWord 32 0b10101010_11111_111_11111111_00000000 = some (.frameSeq7 31#5 255#8 0#8) := by decide
theorem test_decode_nop : -- 0x1FFF (V8.2): operand bits ignored
    decodeTableWord 16 0b000_11111_11111111 = some .nop := by decide
theorem test_decode_encode : -- 0x232A (V8.3)
    decodeTableWord 16 0b001_00011_00101010 = some (.encode 3#5 42#8) := by decide
theorem test_decode_scan : -- 0x4000 (V8.5)
    decodeTableWord 16 0b010_00000_00000000 = some .scan := by decide
theorem test_decode_recv : -- 0x7ABC (V8.7): operand bits ignored
    decodeTableWord 16 0b011_11010_10111100 = some .recv := by decide
theorem test_decode_filter : -- 0x83FF (V8.9): data bits ignored
    decodeTableWord 16 0b100_00011_11111111 = some (.filter 3#5) := by decide
theorem test_decode_combine : -- 0xB500 (V8.11)
    decodeTableWord 16 0b101_10101_00000000 = some (.combine 21#5) := by decide
theorem test_decode_reserved6 : -- 0xC000 (V8.12)
    decodeTableWord 16 0b110_00000_00000000 = some .reserved6 := by decide
theorem test_decode_reserved7 : -- 0xFFFF (V8.13)
    decodeTableWord 16 0b111_11111_11111111 = some .reserved7 := by decide

/-- Windows that are no frame, each rejected by its name (V2.10, V2.11, V2.15, V2.19, V2.20). -/
theorem test_decode_rejects :
    decodeFrame (frameOfWord 0xAB182A32#32) = .error .badSync ∧
    decodeFrame (frameOfWord 0x00000000#32) = .error .badSync ∧
    decodeFrame (frameOfWord 0xAA182A33#32) = .error .badChecksum ∧
    decodeTableWord 32 0x55182A32 = none ∧ decodeTableWord 32 0xAA182A00 = none := by
  refine ⟨rfl, rfl, rfl, ?_, ?_⟩ <;> decide

/-- The notation's words (R84; V4.1, V4.3, V8.8, V8.11). -/
theorem test_assemble :
    assemble (.encode 3 42) = some 0x232A#16 ∧ assemble (.encode 31 255) = some 0x3FFF#16 ∧
    assemble (.filter 3) = some 0x8300#16 ∧ assemble (.combine 21) = some 0xB500#16 ∧
    assemble .scan = some 0x4000#16 ∧ assemble .recv = some 0x6000#16 ∧ assemble .nop = some 0#16 := by decide

/-! ### The pure functions -/

/-- V2.3, V2.5, V2.7 (R121). -/
theorem test_encodeFrame :
    encodeFrame 3#5 2#3 42#8 = frameOfWord 0xAA1A2A30#32 ∧ encodeFrame 31#5 2#3 255#8 = frameOfWord 0xAAFAFF05#32 ∧
    encodeFrame 21#5 2#3 0#8 = frameOfWord 0xAAAA00AA#32 := by decide

/-- V2.14, V2.18 (R122). -/
theorem test_packet :
    (frameOfWord 0xAAFFFF00#32).packet = { address := 31#5, sequence := 7#3, data := 255#8 } ∧
    (frameOfWord 0xAAAA18B2#32).packet = { address := 21#5, sequence := 2#3, data := 24#8 } := by decide

/-- `EncByte(3, 42, 7) = 0x33`, `EncByte(31, 255, 5) = 0xF9`, `EncByte(0, 0, 11) = 0x02` (R129 and section 2). -/
theorem test_encByte :
    encByte 3#5 42#8 7#4 = 0x33#8 ∧ encByte 31#5 255#8 5#4 = 0xF9#8 ∧ encByte 0#5 0#8 11#4 = 0x02#8 := by decide

/-- V3.1, V3.2, V3.3, V3.4, V3.7, V3.10, V3.11, V3.8, V3.13 (R123). -/
theorem test_resolve :
    resolve 7#3 { d0 := 5#8, d1 := 5#8, d2 := 9#8 } = some 5#8 ∧
    resolve 7#3 { d0 := 5#8, d1 := 9#8, d2 := 9#8 } = some 9#8 ∧
    resolve 7#3 { d0 := 5#8, d1 := 9#8, d2 := 5#8 } = some 5#8 ∧
    resolve 7#3 { d0 := 1#8, d1 := 2#8, d2 := 3#8 } = some 1#8 ∧
    resolve 2#3 { d0 := 1#8, d1 := 4#8, d2 := 3#8 } = some 4#8 ∧
    resolve 5#3 { d0 := 7#8, d1 := 2#8, d2 := 8#8 } = some 7#8 ∧
    resolve 6#3 { d0 := 1#8, d1 := 4#8, d2 := 6#8 } = some 4#8 ∧
    resolve 4#3 { d0 := 1#8, d1 := 2#8, d2 := 3#8 } = some 3#8 ∧
    resolve 0#3 { d0 := 1#8, d1 := 2#8, d2 := 3#8 } = none := by decide

/-! ### One step of each instruction -/

theorem test_step_nop : -- R103, its example
    (nextOf (step (offering 0x0000#16))).map result = some (0#32, true, .idle) := by decide
theorem test_step_encode : -- V4.9, the accept step
    (nextOf (step (offering 0x232A#16))).map (fun t => (t.op, t.taddr, t.tdata, t.tcnt, t.tx)) =
      some (.encode, 3#5, 42#8, 0#4, []) := by decide
theorem test_transmit : -- R142, its example
    (nextOf (step { State.reset with op := .encode, taddr := 3#5, tdata := 42#8, tcnt := 7#4 })).map
      (fun t => (t.tx, t.tcnt, t.op)) = some ([0x33#8], 8#4, .encode) := by decide
theorem test_step_scan : -- 0x4000 with a stale window count
    (nextOf (step { offering 0x4000#16 with wn := 2#3 })).map (fun t => (t.op, t.wn, t.cmds)) =
      some (.scan, 0#3, []) := by decide
theorem test_scan_completes : -- V5.1 with SCAN
    (nextOf (step (atFourth .scan 0xAA#8 0x18#8 0x2A#8 0x32#8))).map result = some (0xAA182A32#32, true, .idle) := by
  decide
theorem test_step_recv : -- V10.1
    (nextOf (step (offering 0x6000#16))).map (fun t => (t.op, t.wn)) = some (.recv, 0#3) := by decide
theorem test_recv_shifts : -- R160, its example (V5.1, fifth step)
    (nextOf (step { State.reset with
      op := .recv, rx := ending [0x32#8], wn := 4#3, w := frameOfWord 0x00AA182A#32 })).map
      (fun t => (result t, t.wn, t.w)) =
      some ((0x0000182A#32, true, .idle), 0#3, frameOfWord 0xAA182A32#32) := by decide
theorem test_step_filter : -- 0x9F00 (V6.5)
    (nextOf (step (offering 0x9F00#16))).map (fun t => (t.op, t.localAddr)) = some (.filter, 31#5) := by decide
theorem test_step_combine : -- R101, its example
    (nextOf (step { offering 0xA300#16 with sv := 5#3, cph := .p2 })).map
      (fun t => (t.op, t.localAddr, t.wn, t.sv, t.cph)) = some (.combine, 3#5, 0#3, 0#3, .p0) := by decide
theorem test_step_reserved6 : -- 0xC000, R101's arm (log 7)
    (nextOf (step (offering 0xC000#16))).map result = some (0#32, true, .idle) := by decide
theorem test_step_reserved7 : -- 0xFFFF, R101's arm (log 7)
    (nextOf (step (offering 0xFFFF#16))).map result = some (0#32, true, .idle) := by decide

theorem test_seq0_combine : -- V7.1, step 4
    (nextOf (exec (.frameSeq0 3#5 42#8 0x32#8) (voting .p0 0#3 State.reset.sd))).map
      (fun t => (t.cph, t.sv, t.sd.d0, t.op, t.rspv)) = some (.p1, 1#3, 42#8, .combine, false) := by decide
theorem test_seq0_filter : -- V6.2
    (nextOf (exec (.frameSeq0 3#5 42#8 0x32#8) { State.reset with op := .filter, localAddr := 3#5 })).map result =
      some (0x0000182A#32, true, .idle) := by decide
theorem test_seq1_combine : -- V7.1, step 8
    (nextOf (exec (.frameSeq1 3#5 42#8 0x33#8) (voting .p1 1#3 { d0 := 42#8, d1 := 0#8, d2 := 0#8 }))).map
      (fun t => (t.cph, t.sv, t.sd.d1, t.op)) = some (.p2, 3#3, 42#8, .combine) := by decide
theorem test_seq1_unfiltered : -- S4 with REFETCH_FILTERED false: the foreign packet ends the window
    (nextOf (exec (.frameSeq1 5#5 9#8 0x20#8)
      { voting .p1 1#3 { d0 := 7#8, d1 := 0#8, d2 := 0#8 } with refetchFiltered := false })).map
      (fun t => (result t, t.sv)) = some ((7#32, true, .idle), 1#3) := by decide
theorem test_seq2_combine : -- V7.2, third packet: slot 0 is outvoted
    (nextOf (exec (.frameSeq2 3#5 9#8 0x13#8) (voting .p2 3#3 { d0 := 5#8, d1 := 9#8, d2 := 0#8 }))).map
      (fun t => (result t, t.sv, t.sd.d2)) = some ((9#32, true, .idle), 7#3, 9#8) := by decide
theorem test_seq2_filter : -- V6.1, the skipped packet for address 4
    (nextOf (exec (.frameSeq2 4#5 9#8 0x2B#8) { State.reset with op := .filter, localAddr := 3#5 })).map
      (fun t => (t.op, t.rspv, t.wn)) = some (.filter, false, 0#3) := by decide
theorem test_seq3_combine : -- V7.17: the empty window; nothing is said of the byte
    (nextOf (exec (.frameSeq3 3#5 9#8 0x12#8) (voting .p0 0#3 State.reset.sd))).map
      (fun t => (t.op, t.rspv, t.sv)) = some (.idle, true, 0#3) := by decide
theorem test_seq4_combine : -- V7.15, third packet
    (nextOf (exec (.frameSeq4 3#5 9#8 0x15#8) (voting .p2 3#3 { d0 := 7#8, d1 := 8#8, d2 := 0#8 }))).map
      (fun t => (result t, t.sv)) = some ((7#32, true, .idle), 3#3) := by decide
theorem test_seq5_combine : -- V7.16, second packet
    (nextOf (exec (.frameSeq5 3#5 9#8 0x14#8) (voting .p1 1#3 { d0 := 7#8, d1 := 0#8, d2 := 0#8 }))).map
      (fun t => (result t, t.sv)) = some ((7#32, true, .idle), 1#3) := by decide
theorem test_seq6_recv : -- R162, R80: returned whatever its sequence
    (nextOf (exec (.frameSeq6 3#5 9#8 0x17#8) { State.reset with op := .recv })).map result =
      some (0x00001E09#32, true, .idle) := by decide
theorem test_seq7_filter : -- V6.5
    (nextOf (exec (.frameSeq7 31#5 255#8 0#8) { State.reset with op := .filter, localAddr := 31#5 })).map result =
      some (0x0000FFFF#32, true, .idle) := by decide

/-! ### Other steps -/

/-- An endless stream never runs dry (R51): behind the listed byte come the bytes of `Config.rxByte`. -/
theorem test_endless_stream :
    (nextOf (step { State.reset with op := .scan, rx := unending [] })).map (fun t => (t.wn, t.rx)) =
      some (1#3, { listed := [], tail := .endless 0 1 }) ∧
    (unending [7#8]).first 3 = [7#8, Config.rxByte 0 0, Config.rxByte 0 1] := ⟨rfl, rfl⟩

theorem test_response_taken : -- R105, its example
    (nextOf (step { State.reset with rspv := true, rsp := 42#32 })).map (fun t => (t.taken, t.rspv, t.rsp)) =
      some ([42#32], false, 42#32) := by decide
theorem test_not_accepted_before_taken : -- V10.4
    (nextOf (step { offering 0x6000#16 with rspv := true })).map (fun t => (t.op, t.cmds)) =
      some (.idle, [0x6000#16]) := by decide
theorem test_reset_when_blocked : -- V10.2
    (nextOf (step { during .recv [] with sched := [.reset] })).map
      (fun t => (t.op, t.rspv, t.wn, t.taken)) = some (.idle, false, 0#3, []) := by decide

/-- A word placed for the first step after reset runs its instruction: a command row, and a frame row (log 9). -/
theorem test_withFetchWord :
    (nextOf (step (State.reset.withFetchWord 16 0x9F00))).map (fun t => (t.op, t.localAddr)) =
      some (.filter, 31#5) ∧
    (nextOf (step (State.reset.withFetchWord 32 0xAAFFFF00))).map result = some (0x0000FFFF#32, true, .idle) := by
  decide

/-! ### Witnesses: for every statement with hypotheses a state and operands that meet them -/

theorem witness_DecodeEncodeRoundTrip :
    (Instr.frameSeq0 0#5 0#8 0#8).wellFormed = true ∧ (Instr.frameSeq7 31#5 255#8 0#8).wellFormed = true ∧
    (Instr.encode 31#5 255#8).wellFormed = true ∧ Instr.reserved7.wellFormed = true := by decide

theorem witness_FrameDecodingLosesNoBit :
    decode (.frame (frameOfWord 0xAA000000#32)) = .ok (.frameSeq0 0#5 0#8 0#8) ∧
    decode (.frame (frameOfWord 0xAAFFFF00#32)) = .ok (.frameSeq7 31#5 255#8 0#8) := ⟨rfl, rfl⟩

/-- The two clauses with hypotheses exclude each other by their first. -/
theorem witness_DecoderTakesExactlyValidFrames :
    (frameOfWord 0xAB182A32#32).b0 ≠ 0xAA#8 ∧
    ((frameOfWord 0xAA182A33#32).b0 = 0xAA#8 ∧
      (frameOfWord 0xAA182A33#32).b3 ≠ (frameOfWord 0xAA182A33#32).b1 ^^^ (frameOfWord 0xAA182A33#32).b2) := by decide

/-- One word for each opcode, and the operand fields at both ends. -/
theorem witness_CommandWordFields :
    (0x1FFF#16).extractLsb' 13 3 = 0#3 ∧ (0x2000#16).extractLsb' 13 3 = 1#3 ∧ (0x3FFF#16).extractLsb' 13 3 = 1#3 ∧
    (0x5FFF#16).extractLsb' 13 3 = 2#3 ∧ (0x6000#16).extractLsb' 13 3 = 3#3 ∧ (0x8000#16).extractLsb' 13 3 = 4#3 ∧
    (0x9FFF#16).extractLsb' 13 3 = 4#3 ∧ (0xBFFF#16).extractLsb' 13 3 = 5#3 ∧ (0xC000#16).extractLsb' 13 3 = 6#3 ∧
    (0xFFFF#16).extractLsb' 13 3 = 7#3 := by decide

/-- The operands R147 refuses name no instruction: nothing is reduced. -/
theorem test_notation_names :
    (Notation.encode 32 0).toInstr = none ∧ (Notation.encode 0 256).toInstr = none ∧
    (Notation.filter 32).toInstr = none ∧ (Notation.encode 31 255).toInstr = some (.encode 31#5 255#8) := by decide

theorem witness_NotationAssemblesToItsInstruction :
    assemble (.encode 31 255) = some 0x3FFF#16 ∧ assemble (.filter 0) = some 0x8000#16 ∧
    assemble (.combine 31) = some 0xBF00#16 ∧ assemble .nop = some 0#16 := by decide

theorem witness_FrameFunctionIdentities :
    (frameOfWord 0xAA000000#32).valid = true ∧ (frameOfWord 0xAAFFFF00#32).valid = true := by decide

/-- V2.12: two patterns that cancel; a pattern in each single byte. -/
theorem witness_ChecksumDetection :
    (frameOfWord 0xAA182A32#32).valid = true ∧ 1#8 ^^^ 1#8 ^^^ 0#8 = 0#8 ∧ (1#8 : Byte) ≠ 0#8 ∧
    (0x80#8 : Byte) ≠ 0#8 := by decide

/-- One window for each clause: majority of 1 and 2, of 0 and 1, of 0 and 2, none; slot 0 alone and with one other; slot
1 alone and with slot 2; slot 2 alone. -/
theorem witness_ResolveProperties :
    (5#8 : Byte) ≠ 9#8 ∧ (9#8 : Byte) ≠ 7#8 ∧ (5#8 : Byte) ≠ 7#8 ∧
    (slotFilled 1#3 0 = true ∧ (1#3 : BitVec 3) ≠ 7#3) ∧ (slotFilled 5#3 0 = true ∧ (5#3 : BitVec 3) ≠ 7#3) ∧
    (slotFilled 2#3 0 = false ∧ slotFilled 2#3 1 = true) ∧ (slotFilled 6#3 0 = false ∧ slotFilled 6#3 1 = true) ∧
    (slotFilled 4#3 0 = false ∧ slotFilled 4#3 1 = false ∧ slotFilled 4#3 2 = true) ∧ (4#3 : BitVec 3) ≠ 0#3 := by
  decide

theorem witness_EncByteIndexesTheExpansion : (0#4 : BitVec 4).toNat ≤ 11 ∧ (11#4 : BitVec 4).toNat ≤ 11 := by decide

theorem witness_CommandsAccepted : State.reset.accepts := ⟨rfl, rfl⟩

/-- An offered word of each opcode. -/
theorem witness_CmdAcceptByOpcode :
    ∀ c ∈ [0x1FFF#16, 0x3FFF#16, 0x4000#16, 0x7ABC#16, 0x83FF#16, 0xBFFF#16, 0xC000#16, 0xFFFF#16],
      (offering c).accepts ∧ (offering c).readyThen [] ∧ (offering c).cmds = [c] :=
  fun _ _ => ⟨⟨rfl, rfl⟩, .inl ⟨rfl, rfl⟩, rfl⟩

/-- V10.5 and V10.4: busy by `OP`, and by `RSPV`; both states have a next state. -/
theorem witness_NoCommandAcceptedWhileBusy :
    (∃ s t : State, s.op ≠ .idle ∧ s.cmds ≠ [] ∧ step s = .next t) ∧
    (∃ s t : State, s.rspv = true ∧ s.cmds ≠ [] ∧ step s = .next t) :=
  ⟨⟨{ during .combine [] with cmds := [0x232A#16] }, _, by decide, by decide, rfl⟩,
   ⟨{ offering 0x6000#16 with rspv := true }, _, rfl, by decide, rfl⟩⟩

/-- The first and the last of the eight rows, in each of the two operations. -/
theorem witness_FramesCompleteScanAndRecv :
    (0#3, Instr.frameSeq0 3#5 42#8 0x32#8) ∈ frameRows 3#5 42#8 0x32#8 ∧
    (7#3, Instr.frameSeq7 31#5 255#8 0#8) ∈ frameRows 31#5 255#8 0#8 ∧
    (during .scan []).op = .scan ∧ (during .recv []).op = .recv := by decide

/-- A frame for the local address 31 and one for address 0. -/
theorem witness_FilterComparesTheAddress :
    (7#3, Instr.frameSeq7 31#5 255#8 0#8) ∈ frameRows 31#5 255#8 0#8 ∧
    (0#3, Instr.frameSeq0 0#5 0#8 0#8) ∈ frameRows 0#5 0#8 0#8 ∧
    ({ during .filter [] with localAddr := 31#5 } : State).op = .filter ∧
    31#5 = ({ during .filter [] with localAddr := 31#5 } : State).localAddr ∧
    0#5 ≠ ({ during .filter [] with localAddr := 31#5 } : State).localAddr := by decide

theorem witness_CombineFirstTest :
    (voting .p0 0#3 State.reset.sd).op = .combine ∧ (voting .p0 0#3 State.reset.sd).cph = .p0 := by decide

/-- As the first packet, and after slot 0. -/
theorem witness_CombineSecondTest :
    ((voting .p0 0#3 State.reset.sd).op = .combine ∧ (voting .p0 0#3 State.reset.sd).cph = .p0) ∧
    ((voting .p1 1#3 State.reset.sd).op = .combine ∧ (voting .p1 1#3 State.reset.sd).cph = .p1) := by decide

theorem witness_CombineThirdTest :
    (voting .p0 0#3 State.reset.sd).op = .combine ∧ (voting .p2 3#3 State.reset.sd).op = .combine := by decide

/-- Sequence 0 after the first test; sequence 1 after the second; sequence 3 and 7. -/
theorem witness_CombineClosesOnUnrecordedPacket :
    (0#3, Instr.frameSeq0 3#5 8#8 0x10#8) ∈ frameRows 3#5 8#8 0x10#8 ∧
    (1#3, Instr.frameSeq1 3#5 8#8 0x11#8) ∈ frameRows 3#5 8#8 0x11#8 ∧
    (3#3, Instr.frameSeq3 3#5 9#8 0x12#8) ∈ frameRows 3#5 9#8 0x12#8 ∧
    (7#3, Instr.frameSeq7 3#5 7#8 0x18#8) ∈ frameRows 3#5 7#8 0x18#8 ∧
    (voting .p1 1#3 State.reset.sd).op = .combine ∧ 3#5 = (voting .p1 1#3 State.reset.sd).localAddr ∧
    resolve (voting .p1 1#3 State.reset.sd).sv (voting .p1 1#3 State.reset.sd).sd = some 0#8 ∧
    (voting .p1 1#3 State.reset.sd).cph ≠ .p0 ∧ (voting .p2 2#3 State.reset.sd).cph = .p2 ∧
    resolve (voting .p2 2#3 State.reset.sd).sv (voting .p2 2#3 State.reset.sd).sd = some 0#8 ∧
    3 ≤ (3#3 : BitVec 3).toNat ∧ 3 ≤ (7#3 : BitVec 3).toNat := by decide

theorem witness_CombineEmptyWindowCompletes :
    (voting .p0 0#3 State.reset.sd).op = .combine ∧ (voting .p0 0#3 State.reset.sd).sv = 0#3 ∧
    Instr.frameSeq3 3#5 9#8 0x12#8 ∈ [Instr.frameSeq3 3#5 9#8 0x12#8, .frameSeq4 3#5 9#8 0x12#8,
      .frameSeq5 3#5 9#8 0x12#8, .frameSeq6 3#5 9#8 0x12#8, .frameSeq7 3#5 9#8 0x12#8] := by decide

/-- A frame for address 5 with the fetches filtered, and with them unfiltered while the first packet is awaited. -/
theorem witness_CombineSkipsForeignFrames :
    (1#3, Instr.frameSeq1 5#5 9#8 0x20#8) ∈ frameRows 5#5 9#8 0x20#8 ∧
    5#5 ≠ (voting .p1 1#3 State.reset.sd).localAddr ∧ (voting .p1 1#3 State.reset.sd).refetchFiltered = true ∧
    (voting .p1 1#3 State.reset.sd).op = .combine ∧
    ({ voting .p0 0#3 State.reset.sd with refetchFiltered := false } : State).cph = .p0 := by decide

theorem witness_CombineForeignFrameEndsUnfilteredVote :
    (1#3, Instr.frameSeq1 5#5 9#8 0x20#8) ∈ frameRows 5#5 9#8 0x20#8 ∧
    5#5 ≠ (voting .p1 1#3 State.reset.sd).localAddr ∧
    ({ voting .p1 1#3 State.reset.sd with refetchFiltered := false } : State).op = .combine ∧
    ({ voting .p1 1#3 State.reset.sd with refetchFiltered := false } : State).refetchFiltered = false ∧
    ({ voting .p1 1#3 State.reset.sd with refetchFiltered := false } : State).cph ≠ .p0 ∧
    resolve 1#3 State.reset.sd = some 0#8 := by decide

/-- Both forms of a ready schedule: the empty one, and a ready turn with a reset behind it. -/
theorem witness_readyThen :
    State.reset.readyThen [] ∧ ({ State.reset with sched := [.ready, .reset] } : State).readyThen [.reset] :=
  ⟨.inl ⟨rfl, rfl⟩, .inr rfl⟩

theorem witness_StepRunsOfferedCommand :
    (offering 0x232A#16).accepts ∧ (offering 0x232A#16).readyThen [] ∧ (offering 0x232A#16).cmds = [0x232A#16] ∧
      decode (.command 0x232A#16) = .ok (.encode 3#5 42#8) :=
  ⟨⟨rfl, rfl⟩, .inl ⟨rfl, rfl⟩, rfl, rfl⟩

/-- A window of three bytes that becomes a frame, and a full window that becomes one when shifted. -/
theorem witness_StepRunsDecodedFrame :
    (Op.recv.receives = true ∧ (atFourth .recv 0xAA#8 0x18#8 0x2A#8 0x32#8).rx.pull = some (0x32#8, ending []) ∧
      State.reset.sched = [] ∧ State.reset.channel = .opened true true ∧
      (atFourth .recv 0xAA#8 0x18#8 0x2A#8 0x32#8).wn = 3#3 ∧
      frameOfWord 0xAA182A32#32 = { (atFourth .recv 0xAA#8 0x18#8 0x2A#8 0x32#8).w with b3 := 0x32#8 } ∧
      (decode (.frame (frameOfWord 0xAA182A32#32))).toOption = some (.frameSeq0 3#5 42#8 0x32#8)) ∧
    (({ during .recv [0x32#8] with wn := 4#3, w := frameOfWord 0x00AA182A#32 } : State).wn = 4#3 ∧
      frameOfWord 0xAA182A32#32 =
        { b0 := (frameOfWord 0x00AA182A#32).b1, b1 := (frameOfWord 0x00AA182A#32).b2
          b2 := (frameOfWord 0x00AA182A#32).b3, b3 := 0x32#8 }) := by decide

/-- Every count of window bytes; the two clauses at 3 and 4 with a window that is not valid. -/
theorem witness_ReceiveStepFillsTheWindow :
    (during .scan [0#8]).op.receives = true ∧ (during .scan [0#8]).sched = [] ∧
    (during .scan [0#8]).channel = .opened true true ∧ (during .scan [0#8]).rx.pull = some (0#8, ending []) ∧
    (during .scan [0#8]).wn = 0#3 ∧ ({ during .scan [0#8] with wn := 1#3 } : State).wn = 1#3 ∧
    ({ during .scan [0#8] with wn := 2#3 } : State).wn = 2#3 ∧
    (({ during .scan [0#8] with wn := 3#3 } : State).wn = 3#3 ∧
      Frame.valid { State.reset.w with b3 := 0#8 } = false) ∧
    (({ during .scan [0#8] with wn := 4#3 } : State).wn = 4#3 ∧
      Frame.valid { b0 := 0#8, b1 := 0#8, b2 := 0#8, b3 := 0#8 } = false) := by decide

/-- The first and the last byte of an ENCODE, and the one before the last. -/
theorem witness_TransmitStepPushesOneByte :
    (during .encode []).op = .encode ∧ (during .encode []).sched = [] ∧
    (during .encode []).channel = .opened true true ∧ (during .encode []).tcnt ≠ 11#4 ∧
    ({ during .encode [] with tcnt := 11#4 } : State).tcnt = 11#4 ∧ (10#4 : BitVec 4) ≠ 11#4 := by decide

theorem witness_HostTakesTheResponse : ∃ s : State, s.awaitsHost ∧ s.readyThen [.wait] :=
  ⟨{ State.reset with rspv := true, sched := [.ready, .wait] }, ⟨rfl, rfl⟩, .inr rfl⟩

theorem witness_ResetStepInAnyState : ∃ s : State, s.op = .combine ∧ s.sched = .reset :: [] :=
  ⟨{ during .combine [] with sched := [.reset] }, rfl, rfl⟩

theorem witness_NothingEnabledNothingChanges :
    (∃ s : State, s.readyThen [] ∧ s.blocked) ∧ (∃ s : State, s.readyThen [] ∧ s.ended) ∧
    (∃ s : State, s.sched = .wait :: []) :=
  ⟨⟨during .recv [], .inl ⟨rfl, rfl⟩, rfl, rfl⟩, ⟨State.reset, .inl ⟨rfl, rfl⟩, ⟨rfl, rfl⟩, rfl⟩,
   ⟨{ State.reset with sched := [.wait] }, rfl⟩⟩

/-- The accept of a SCAN and its first byte, with a wait before, between and after. -/
theorem witness_SchedulesOnlyDelay :
    ∃ t, runSteps ([Turn.wait, .ready, .wait, .ready, .wait].count .ready)
      { offering 0x4000#16 with rx := ending [7#8], sched := [] } = some t ∧ t.wn = 1#3 ∧
      ∀ x ∈ [Turn.wait, .ready, .wait, .ready, .wait], x = .ready ∨ x = .wait :=
  ⟨_, rfl, rfl, by decide⟩

/-- One state for each of the six clauses, and what the model answers. -/
theorem witness_ChannelPremiseIsGuarded :
    refusalOf (step { during .encode [] with channel := .closed }) = some .channelNotOpen ∧
    refusalOf (step { during .scan [0#8] with channel := .closed }) = some .channelNotOpen ∧
    refusalOf (step { during .encode [] with channel := .opened false true }) = some .transmitNotEnabled ∧
    refusalOf (step { during .combine [0#8] with channel := .opened true false }) = some .receiveNotEnabled ∧
    (nextOf (step { State.reset with channel := .closed, sched := [.openChannel true false] })).map
      (fun t => t.channel) = some (.opened true false) ∧
    refusalOf (step { State.reset with sched := [.openChannel true true] }) = some .channelAlreadyOpen := by decide

theorem witness_NoStepFails :
    State.reset.channel = .opened true true ∧ ∀ tx rx turns, State.reset.sched ≠ .openChannel tx rx :: turns :=
  ⟨rfl, fun _ _ _ h => by cases h⟩

/-- The invariants in a COMBINE that waits for its third packet with a full window that is no frame, with its step. -/
theorem witness_InvariantsKept : ∃ s t : State, s.Inv ∧ s.op = .combine ∧ s.cph = .p2 ∧ s.wn = 4#3 ∧ step s = .next t :=
  ⟨{ voting .p2 3#3 State.reset.sd with wn := 4#3 }, _,
    { emptyWindow := by decide, responseIdle := by decide, windowCount := by decide, transmitCount := by decide
      voteWindow := fun _ => ⟨rfl, rfl⟩, notValid := fun _ _ => rfl }, rfl, rfl, rfl, rfl⟩

/-- A step that moves nothing, one that pulls, one that pushes. -/
theorem witness_StepMovesAtMostOneByte :
    (∃ t, step (offering 0x4000#16) = .next t) ∧ (∃ t, step (during .scan [0#8]) = .next t ∧ t.rx = ending []) ∧
    (∃ t, step (during .encode []) = .next t ∧ t.tx = [0xAA#8]) :=
  ⟨⟨_, rfl⟩, ⟨_, rfl, rfl⟩, ⟨_, rfl, rfl⟩⟩

theorem witness_OperationsReachTheirStream :
    (∃ t, step (during .encode []) = .next t ∧ t.tx ≠ (during .encode []).tx) ∧
    (∃ t, step (during .filter [0#8]) = .next t ∧ t.rx ≠ (during .filter [0#8]).rx) ∧
    (∃ t, step { during .filter [0#8] with sched := [.reset] } = .next t) :=
  ⟨⟨_, rfl, by decide⟩, ⟨_, rfl, by decide⟩, ⟨_, rfl⟩⟩

/-- Without a reset turn, and with one, which only the first clause excludes. -/
theorem witness_OperandsStayLatched :
    (∃ s t : State, step s = .next t ∧ s.op ≠ .idle ∧ s.cmds ≠ [] ∧ ∀ turns, s.sched ≠ .reset :: turns) ∧
    (∃ s t : State, step s = .next t ∧ s.op ≠ .idle ∧ s.sched = [.reset]) :=
  ⟨⟨{ during .encode [] with cmds := [0x9F00#16] }, _, rfl, by decide, by decide, fun _ h => by cases h⟩,
   ⟨{ during .encode [] with sched := [.reset] }, _, rfl, by decide, rfl⟩⟩

theorem witness_ParametersFixed : ∃ s t : State, step s = .next t ∧ s.channel ≠ .closed ∧ s.refetchFiltered = false :=
  ⟨{ during .scan [0#8] with refetchFiltered := false }, _, rfl, by decide, rfl⟩

/-- Two COMBINEs after one recorded packet that differ in registers which hold no value. -/
theorem witness_StaleRegistersAreNeverRead :
    ∃ s t : State, s.sameLive t ∧ s ≠ t ∧ ∃ s', step s = .next s' :=
  ⟨{ voting .p1 1#3 { d0 := 7#8, d1 := 1#8, d2 := 2#8 } with rx := ending [0xAA#8] },
   { voting .p1 1#3 { d0 := 7#8, d1 := 3#8, d2 := 4#8 } with
      rx := ending [0xAA#8], w := frameOfWord 0xAA182A32#32, taddr := 9#5, tdata := 9#8, tcnt := 9#4, rsp := 9#32 },
   { op := rfl, rspv := rfl, wn := fun _ => rfl
     window := fun _ => ⟨by decide, by decide, by decide, by decide⟩
     transmit := by decide, localAddr := fun _ => rfl
     vote := fun _ => ⟨rfl, rfl, by decide, by decide, by decide⟩
     rsp := by decide, streams := ⟨rfl, rfl⟩, ports := ⟨rfl, rfl⟩, environment := ⟨rfl, rfl, rfl, rfl⟩ },
   by decide, _, rfl⟩

/-- The clause on refusals: two states that differ in stale registers and whose step is refused. -/
theorem witness_StaleRegistersAreNeverRead_refused :
    ∃ s t : State, s.sameLive t ∧ s ≠ t ∧ step s = .refused .channelNotOpen :=
  ⟨{ during .encode [] with channel := .closed }, { during .encode [] with channel := .closed, rsp := 9#32, sv := 7#3 },
   { op := rfl, rspv := rfl, wn := by decide, window := fun h => by cases h
     transmit := fun _ => ⟨rfl, rfl, rfl⟩
     localAddr := by decide, vote := fun h => (by cases h)
     rsp := by decide, streams := ⟨rfl, rfl⟩, ports := ⟨rfl, rfl⟩
     environment := ⟨rfl, rfl, rfl, rfl⟩ }, by decide, rfl⟩

theorem witness_EncodeSendsItsTwelveBytes :
    (offering 0x3FFF#16).accepts ∧ (offering 0x3FFF#16).sched = [] ∧
    (offering 0x3FFF#16).channel = .opened true true ∧ (offering 0x3FFF#16).cmds = [0x3FFF#16] ∧
    decode (.command 0x3FFF#16) = .ok (.encode 31#5 255#8) := ⟨⟨rfl, rfl⟩, rfl, rfl, rfl, rfl⟩

/-- S2's stream is returned by SCAN and RECV; V5.7's has no result. Each with an endless stream behind it too. -/
theorem witness_ScanAndRecvAgreeWithStream :
    (∀ o : Op, ∀ x : RxStream, freshReceive { State.reset with op := o, rx := x } o) ∧
    streamScan ((ending [0x00#8, 0xAA#8, 0x18#8, 0x2A#8, 0x32#8]).first 9) = some (frameOfWord 0xAA182A32#32, []) ∧
    streamRecv ((unending [0x00#8, 0xAA#8, 0x18#8, 0x2A#8, 0x32#8]).first 5) =
      some ({ address := 3#5, sequence := 0#3, data := 42#8 }, []) ∧
    streamScan ((ending [0xAA#8, 0x18#8, 0x2A#8]).first 4) = none ∧
    streamRecv ((unending [0xAA#8, 0x18#8, 0x2A#8]).first 3) = none :=
  ⟨fun _ _ => ⟨rfl, rfl, rfl, rfl, true, rfl⟩, by decide, by decide, by decide, by decide⟩

/-- V6.1 with its leading foreign packet only, and V6.3. -/
theorem witness_FilterAgreesWithStream :
    (∀ x : RxStream, freshReceive { during .filter [] with localAddr := 3#5, rx := x } .filter) ∧
    streamFilter 3#5
      ((ending [0xAA#8, 0x28#8, 0x01#8, 0x29#8, 0x13#8, 0xAA#8, 0x19#8, 0x2A#8, 0x33#8, 0x77#8]).first 10) =
      some ({ address := 3#5, sequence := 1#3, data := 42#8 }, [0x77#8]) ∧
    streamFilter 3#5 ((ending [0xAA#8, 0x28#8, 0x01#8, 0x29#8, 0xAA#8, 0x22#8, 0x09#8, 0x2B#8]).first 8) = none :=
  ⟨fun _ => ⟨rfl, rfl, rfl, rfl, true, rfl⟩, by decide, by decide⟩

/-- V7.8 completes, V7.31 blocks with the fetches filtered and completes with them unfiltered. -/
theorem witness_CombineAgreesWithStream :
    (∀ x : RxStream, freshReceive { voting .p0 0#3 State.reset.sd with rx := x } .combine) ∧
    streamCombine true 3#5 State.reset.sd ((unending [0xAA#8, 0x1A#8, 0x03#8, 0x19#8]).first 4) =
      some { sv := 4#3, sd := { State.reset.sd with d2 := 3#8 }
             cur := { address := 3#5, sequence := 2#3, data := 3#8 }, rest := [] } ∧
    streamCombine true 3#5 State.reset.sd
      ((ending [0xAA#8, 0x18#8, 0x07#8, 0x1F#8, 0xAA#8, 0x29#8, 0x09#8, 0x20#8]).first 8) = none ∧
    (streamCombine false 3#5 State.reset.sd
      ((ending [0xAA#8, 0x18#8, 0x07#8, 0x1F#8, 0xAA#8, 0x29#8, 0x09#8, 0x20#8]).first 8)).map
        (fun v => (v.sv, v.sd.d0, v.rest)) = some (1#3, 7#8, []) :=
  ⟨fun _ => ⟨rfl, rfl, rfl, rfl, true, rfl⟩, by decide, by decide, by decide⟩

/-- One stream on which each of the four functions has a value: V7.8. -/
theorem witness_ResultsNeedNoLaterByte :
    streamScan [0xAA#8, 0x1A#8, 0x03#8, 0x19#8] = some (frameOfWord 0xAA1A0319#32, []) ∧
    streamRecv [0xAA#8, 0x1A#8, 0x03#8, 0x19#8] = some ({ address := 3#5, sequence := 2#3, data := 3#8 }, []) ∧
    streamFilter 3#5 [0xAA#8, 0x1A#8, 0x03#8, 0x19#8] =
      some ({ address := 3#5, sequence := 2#3, data := 3#8 }, []) ∧
    (streamCombine false 3#5 State.reset.sd [0xAA#8, 0x1A#8, 0x03#8, 0x19#8]).map (fun v => v.sv) = some 4#3 := by
  decide

/-- V5.8, the false lock, and V5.10, which blocks. -/
theorem witness_ScanFindsTheFirstValidWindow :
    streamScan [0xAA#8, 0xAA#8, 0x18#8, 0xB2#8, 0xAA#8] = some (frameOfWord 0xAAAA18B2#32, [0xAA#8]) ∧
    streamScan [0#8, 0#8, 0#8, 0#8, 0#8, 0#8] = none := by decide

/-- A stream with no packet; one whose packet matches address 3; the same for address 5. -/
theorem witness_FilterIsRepeatedRecv :
    streamRecv [] = none ∧
    streamRecv [0xAA#8, 0x18#8, 0x2A#8, 0x32#8] = some ({ address := 3#5, sequence := 0#3, data := 42#8 }, []) ∧
    (3#5 : Addr) ≠ 5#5 := by decide

theorem witness_FilteredFetchesAreLocal :
    streamFilter 3#5 [0xAA#8, 0x18#8, 0x2A#8, 0x32#8] = some ({ address := 3#5, sequence := 0#3, data := 42#8 }, []) ∧
    streamFetch2 true 3#5 [0xAA#8, 0x18#8, 0x2A#8, 0x32#8] =
      some ({ address := 3#5, sequence := 0#3, data := 42#8 }, []) := by decide

/-- The frame of a sequence value for address 3 with data 9. -/
def shapeFrame (q : Seq) : List Byte := frameBytes (encodeFrame 3#5 q 9#8)

/-- One stream for each row of R204's table: the sequence numbers its fetches find, in order. -/
theorem witness_VoteWindowShapes :
    ∀ q ∈ [[2#3], [3#3], [7#3], [1#3, 2#3], [1#3, 1#3], [0#3, 2#3], [0#3, 0#3], [0#3, 3#3], [0#3, 1#3, 2#3],
        [0#3, 1#3, 1#3]],
      ((streamFilter 3#5 (q.flatMap shapeFrame)).map fun r => r.1.sequence) = q[0]? ∧
      (((streamFilter 3#5 (q.flatMap shapeFrame)).bind fun r => streamFilter 3#5 r.2).map fun r => r.1.sequence) =
        q[1]? ∧
      ((((streamFilter 3#5 (q.flatMap shapeFrame)).bind fun r => streamFilter 3#5 r.2).bind
        fun r => streamFilter 3#5 r.2).map fun r => r.1.sequence) = q[2]? := by decide

/-- First packets of sequence 0 and 2 whose COMBINE has a result. -/
theorem witness_FirstPacketInRangeFillsASlot :
    ((streamFilter 3#5 ([0#3, 3#3].flatMap shapeFrame)).map fun r => r.1.sequence) = some 0#3 ∧
    ((streamCombine false 3#5 State.reset.sd ([0#3, 3#3].flatMap shapeFrame)).map fun v => v.sv) = some 1#3 ∧
    ((streamFilter 3#5 (shapeFrame 2#3)).map fun r => r.1.sequence) = some 2#3 ∧
    ((streamCombine true 3#5 State.reset.sd (shapeFrame 2#3)).map fun v => v.sv) = some 4#3 ∧
    (2#3 : Seq).toNat ≤ 2 := by decide

end Sys2Proof.Tests
end

namespace Sys2Proof.Machine

/-! ## What a step leaves alone: the parameter, the channel, the streams -/

/-- The receive step pulls its byte and writes what RxStep and FrameAccept write, nothing else (R160, R161). -/
theorem State.rxStep_frame (s : State) (b : Byte) (rest : RxStream) :
    s.rxStep b rest =
      { s with
        rx := rest, w := (s.rxStep b rest).w, wn := (s.rxStep b rest).wn, sv := (s.rxStep b rest).sv
        sd := (s.rxStep b rest).sd, cph := (s.rxStep b rest).cph, rsp := (s.rxStep b rest).rsp
        rspv := (s.rxStep b rest).rspv, op := (s.rxStep b rest).op, draws := (s.rxStep b rest).draws } := by
  unfold State.rxStep
  split
  · rw [State.frameAccept_frame, State.windowPush_frame]
    rfl
  · rw [State.windowPush_frame]
    rfl

@[simp] theorem State.rxStep_rx (s : State) (b : Byte) (rest : RxStream) : (s.rxStep b rest).rx = rest := by
  rw [State.rxStep_frame]

@[simp] theorem State.rxStep_tx (s : State) (b : Byte) (rest : RxStream) : (s.rxStep b rest).tx = s.tx := by
  rw [State.rxStep_frame]

@[simp] theorem State.rxStep_taken (s : State) (b : Byte) (rest : RxStream) : (s.rxStep b rest).taken = s.taken := by
  rw [State.rxStep_frame]

@[simp] theorem State.rxStep_channel (s : State) (b : Byte) (rest : RxStream) :
    (s.rxStep b rest).channel = s.channel := by
  rw [State.rxStep_frame]

@[simp] theorem State.rxStep_refetchFiltered (s : State) (b : Byte) (rest : RxStream) :
    (s.rxStep b rest).refetchFiltered = s.refetchFiltered := by
  rw [State.rxStep_frame]

/-- No accept step writes the parameter or the channel (R101). -/
theorem commandEffect_parameters {i : Instr} {f : State → State} (h : commandEffect i = some f) (s : State) :
    (f s).refetchFiltered = s.refetchFiltered ∧ (f s).channel = s.channel := by
  cases i <;> simp only [commandEffect, Option.some.injEq, reduceCtorEq] at h <;> subst h <;> exact ⟨rfl, rfl⟩

/-- TxStep writes neither the parameter nor the channel (R142). -/
theorem State.txStep_parameters (s : State) :
    s.txStep.refetchFiltered = s.refetchFiltered ∧ s.txStep.channel = s.channel := by
  rcases s.txStep_cases with ⟨-, h⟩ | ⟨-, h⟩ <;> rw [h] <;> exact ⟨rfl, rfl⟩

/-- No step of a ready engine writes the parameter or the channel (R35). -/
theorem ReadyStep.parameters {s t : State} (h : ReadyStep s t) :
    t.refetchFiltered = s.refetchFiltered ∧ t.channel = s.channel := by
  cases h with
  | takeResponse => exact ⟨rfl, rfl⟩
  | quiescent => exact ⟨rfl, rfl⟩
  | accept _ _ _ rest _ _ hf => exact commandEffect_parameters hf (s.setCmds rest)
  | transmit => exact s.txStep_parameters
  | blocked => exact ⟨rfl, rfl⟩
  | receive _ _ b rest _ => exact ⟨s.rxStep_refetchFiltered b rest, s.rxStep_channel b rest⟩

/-- Settles O38, by the cases of the step: only the turn that opens a closed channel writes either field. -/
theorem parametersFixed : Obligations.ParametersFixed := by
  intro s t h
  rcases step_cases h with ⟨-, hr⟩ | ⟨turns, -, hr⟩ | ⟨turns, -, rfl⟩ | ⟨turns, -, rfl⟩ |
    ⟨tx, rx, turns, -, hclosed, rfl⟩
  · exact ⟨hr.parameters.1, fun _ => hr.parameters.2⟩
  · exact ⟨hr.parameters.1, fun _ => hr.parameters.2⟩
  · exact ⟨rfl, fun _ => rfl⟩
  · exact ⟨rfl, fun _ => rfl⟩
  · exact ⟨rfl, fun hopen => absurd hclosed hopen⟩

/-! ## Runs of a receive operation: one byte of the stream for each step (R12, R51, R160) -/

/-- A receive operation in progress, with host and channel ready. -/
structure State.Receiving (s : State) : Prop where
  op : s.op.receives = true
  ready : s.hostReady
  channel : s.channel.receiveRefusal = none

/-- `Reads s n t n'`: receive steps take `s` to `t`, a byte for each, and of the `n` bytes that could be looked at in
`s` there are `n'` left in `t`. -/
inductive Reads : State → Nat → State → Nat → Prop where
  | refl (s : State) (n : Nat) : Reads s n s n
  | pull {s t : State} {b : Byte} {rest : RxStream} {n n' : Nat} (hs : s.Receiving)
      (hx : s.rx.pull = some (b, rest)) (h : Reads (s.rxStep b rest) n t n') : Reads s (n + 1) t n'

theorem State.Receiving.step_eq {s : State} (hs : s.Receiving) {b : Byte} {rest : RxStream}
    (hx : s.rx.pull = some (b, rest)) : step s = .next (s.rxStep b rest) :=
  step_receive hs.ready hs.op hx hs.channel

theorem Reads.trans {s t u : State} {n n' n'' : Nat} (h : Reads s n t n') (h' : Reads t n' u n'') :
    Reads s n u n'' := by
  induction h with
  | refl => exact h'
  | pull hs hx _ ih => exact .pull hs hx (ih h')

theorem Reads.length_le {s t : State} {n n' : Nat} (h : Reads s n t n') :
    (t.rx.first n').length ≤ (s.rx.first n).length := by
  induction h with
  | refl => exact le_rfl
  | pull hs hx _ ih =>
    rw [RxStream.first_of_pull hx, List.length_cons]
    rw [State.rxStep_rx] at ih
    omega

/-- A reading run takes as many steps as it pulls bytes, and pulls just these. -/
theorem Reads.runSteps_eq {s t : State} {n n' : Nat} (h : Reads s n t n') :
    runSteps ((s.rx.first n).length - (t.rx.first n').length) s = some t ∧
      t.rx = s.rx.drop ((s.rx.first n).length - (t.rx.first n').length) := by
  induction h with
  | refl => simp [runSteps]
  | @pull s t b rest n n' hs hx h ih =>
    have hle := h.length_le
    rw [State.rxStep_rx] at ih hle
    rw [RxStream.first_of_pull hx, List.length_cons, Nat.succ_sub hle]
    exact ⟨by simpa only [runSteps, hs.step_eq hx] using ih.1, by rw [RxStream.drop_of_pull hx]; exact ih.2⟩

/-- A reading run touches neither what was sent nor the responses taken. -/
theorem Reads.output_eq {s t : State} {n n' : Nat} (h : Reads s n t n') : t.tx = s.tx ∧ t.taken = s.taken := by
  induction h with
  | refl => exact ⟨rfl, rfl⟩
  | pull _ _ _ ih => simpa using ih

/-- A reading run that leaves no byte has pulled all there are. -/
theorem Reads.drop_eq {s t : State} {n n' : Nat} (h : Reads s n t n') (h0 : t.rx.first n' = []) :
    t.rx = s.rx.drop n := by
  induction h with
  | refl s n =>
    cases n with
    | zero => rfl
    | succ n =>
      cases hx : s.rx.pull with
      | none => rw [RxStream.drop_of_pull_none hx]
      | some pulled => simp [RxStream.first, hx] at h0
  | pull hs hx _ ih => rw [ih h0, State.rxStep_rx, RxStream.drop_of_pull hx]

/-- A reading run that leaves no byte and does not complete its operation: all bytes are pulled, one for each step, and
it is blocked if the stream ends there (R158). -/
theorem Reads.waiting {s t : State} {n n' : Nat} {o : Op} (h : Reads s n t n') (h0 : t.rx.first n' = [])
    (ho : t.op = o) (hrec : o.receives = true) (hrspv : t.rspv = false) :
    ∃ t, runSteps (s.rx.first n).length s = some t ∧ t.op = o ∧ t.rspv = false ∧
      t.rx = s.rx.drop n ∧ (t.rx.pull = none → t.blocked) ∧ t.tx = s.tx ∧ t.taken = s.taken := by
  have hrun := h.runSteps_eq.1
  rw [h0, List.length_nil, Nat.sub_zero] at hrun
  exact ⟨t, hrun, ho, hrspv, h.drop_eq h0, fun hx => ⟨by rw [ho]; exact hrec, hx⟩, h.output_eq⟩

/-! ### The scan window against the stream (R156, R160) -/

/-- The bytes of the scan window that can still begin a frame: those below `WN`, without the oldest of a full window,
which the next byte shifts out. -/
def pendingBytes (w : Frame) (n : BitVec 3) : List Byte :=
  if n = 4#3 then [w.b1, w.b2, w.b3] else (frameBytes w).take n.toNat

theorem pendingBytes_zero (w : Frame) : pendingBytes w 0#3 = [] := rfl

/-- What a byte does to the pending bytes: it makes four of them, a full window, or it is one more (R160). -/
theorem State.windowPush_pending {s : State} (hwn : s.wn.toNat ≤ 4) (b : Byte) :
    ((s.windowPush b).wn = 4#3 ∧ frameBytes (s.windowPush b).w = pendingBytes s.w s.wn ++ [b]) ∨
    ((s.windowPush b).wn.toNat < 4 ∧
      pendingBytes (s.windowPush b).w (s.windowPush b).wn = pendingBytes s.w s.wn ++ [b]) := by
  have hcount : s.wn = 0#3 ∨ s.wn = 1#3 ∨ s.wn = 2#3 ∨ s.wn = 3#3 ∨ s.wn = 4#3 := by bv_omega
  rcases hcount with h | h | h | h | h
  · exact .inr (by simp [State.windowPush, h, windowSet, pendingBytes, frameBytes])
  · exact .inr (by simp [State.windowPush, h, windowSet, pendingBytes, frameBytes])
  · exact .inr (by simp [State.windowPush, h, windowSet, pendingBytes, frameBytes])
  · exact .inl (by simp [State.windowPush, h, windowSet, pendingBytes, frameBytes])
  · exact .inl (by simp [State.windowPush, h, windowShift, pendingBytes, frameBytes])

/-- Fewer than four bytes are pending, so they hold no frame. -/
theorem streamScan_pendingBytes {w : Frame} {n : BitVec 3} (hn : n.toNat ≤ 4) :
    streamScan (pendingBytes w n) = none := by
  have hlen : (pendingBytes w n).length < 4 := by
    unfold pendingBytes
    split
    · simp
    · rename_i h4
      have : n.toNat ≠ 4 := fun h => h4 (BitVec.eq_of_toNat_eq h)
      rw [List.length_take]
      omega
  by_contra hsome
  obtain ⟨⟨f, rest⟩, hf⟩ := Option.ne_none_iff_exists'.1 hsome
  have := streamScan_length hf
  omega

theorem streamScan_of_valid {f : Frame} (hf : f.valid = true) (bytes : List Byte) :
    streamScan (frameBytes f ++ bytes) = some (f, bytes) := by
  simp [frameBytes, streamScan, hf]

/-- A full window that is no frame drops its oldest byte (R156). -/
theorem streamScan_of_not_valid {f : Frame} (hf : f.valid = false) (bytes : List Byte) :
    streamScan (frameBytes f ++ bytes) = streamScan (pendingBytes f 4#3 ++ bytes) := by
  simp [frameBytes, streamScan, hf, pendingBytes]

/-- What a receive operation in `s` comes to on the first `n` bytes of its stream, up to its next frame: with a frame
`f`, `g f` and the bytes behind it, in the state that accepts the frame; with none, after all the bytes. -/
inductive Fetches {α : Type} (g : Frame → α) (s : State) (n : Nat) : Option (α × List Byte) → Prop where
  | found {x : RxStream} {f : Frame} {n' : Nat}
      (h : Reads s n (((s.setRx x).setWindow f 4#3).frameAccept f) n') : Fetches g s n (some (g f, x.first n'))
  | waiting {x : RxStream} {w : Frame} {k : BitVec 3} {n' : Nat}
      (h : Reads s n ((s.setRx x).setWindow w k) n') (h0 : x.first n' = []) : Fetches g s n none

/-- A fetch of a state that differs in stream and window only, reached by a reading run, is a fetch from the start. -/
theorem Fetches.of_reads {α : Type} {g : Frame → α} {s : State} {x : RxStream} {w : Frame} {k : BitVec 3}
    {n n' : Nat} {r : Option (α × List Byte)} (hr : Reads s n ((s.setRx x).setWindow w k) n')
    (h : Fetches g ((s.setRx x).setWindow w k) n' r) : Fetches g s n r := by
  cases h with
  | found h => exact .found (hr.trans h)
  | waiting h h0 => exact .waiting (hr.trans h) h0

theorem State.Receiving.setWindow {s : State} (hs : s.Receiving) (x : RxStream) (w : Frame) (k : BitVec 3) :
    ((s.setRx x).setWindow w k).Receiving :=
  ⟨hs.op, hs.ready, hs.channel⟩

/-- A receive step against the scan: its byte makes the window a frame, which is the next the scan finds, or it leaves
the scan to go on from the new window (R156, R160). -/
theorem State.rxStep_streamScan {s : State} (hwn : s.wn.toNat ≤ 4) (b : Byte) (rest : RxStream) :
    (∃ f, s.rxStep b rest = ((s.setRx rest).setWindow f 4#3).frameAccept f ∧
      ∀ bytes, streamScan (pendingBytes s.w s.wn ++ b :: bytes) = some (f, bytes)) ∨
    (∃ w k, s.rxStep b rest = (s.setRx rest).setWindow w k ∧ k.toNat ≤ 4 ∧
      ∀ bytes, streamScan (pendingBytes s.w s.wn ++ b :: bytes) = streamScan (pendingBytes w k ++ bytes)) := by
  have hpush := (s.setRx rest).windowPush_frame b
  have happend (bytes : List Byte) :
      pendingBytes s.w s.wn ++ b :: bytes = (pendingBytes s.w s.wn ++ [b]) ++ bytes := by simp
  rcases State.windowPush_pending (s := s.setRx rest) hwn b with ⟨h4, hw⟩ | ⟨hlt, hw⟩
  · rw [h4] at hpush
    rw [State.setRx_w, State.setRx_wn] at hw
    cases hv : ((s.setRx rest).windowPush b).w.valid with
    | true =>
      refine .inl ⟨((s.setRx rest).windowPush b).w, ?_, fun bytes => ?_⟩
      · rw [State.rxStep, if_pos ⟨h4, hv⟩, ← hpush]
      · rw [happend, ← hw, streamScan_of_valid hv]
    | false =>
      refine .inr ⟨((s.setRx rest).windowPush b).w, 4#3, ?_, le_rfl, fun bytes => ?_⟩
      · rw [State.rxStep, if_neg (by simp [hv]), ← hpush]
      · rw [happend, ← hw, streamScan_of_not_valid hv]
  · have h4 : ((s.setRx rest).windowPush b).wn ≠ 4#3 := fun h => by simp [h] at hlt
    refine .inr ⟨((s.setRx rest).windowPush b).w, ((s.setRx rest).windowPush b).wn, ?_, hlt.le, fun bytes => ?_⟩
    · rw [State.rxStep, if_neg (by simp [h4]), ← hpush]
    · rw [happend, hw, State.setRx_w, State.setRx_wn]

theorem fetches_of_no_byte {s : State} {n : Nat} (hwn : s.wn.toNat ≤ 4) (h0 : s.rx.first n = []) :
    Fetches id s n (streamScan (pendingBytes s.w s.wn ++ s.rx.first n)) := by
  rw [h0, List.append_nil, streamScan_pendingBytes hwn]
  exact .waiting (.refl s n) h0

/-- The receive steps find the frame the scan finds on the pending bytes and those to come (R156, R157, R160). -/
theorem fetches_streamScan_pending {n : Nat} {s : State} (hs : s.Receiving) (hwn : s.wn.toNat ≤ 4) :
    Fetches id s n (streamScan (pendingBytes s.w s.wn ++ s.rx.first n)) := by
  induction n generalizing s with
  | zero => exact fetches_of_no_byte hwn rfl
  | succ n ih =>
    cases hx : s.rx.pull with
    | none => exact fetches_of_no_byte hwn (RxStream.first_of_pull_none hx _)
    | some pulled =>
      obtain ⟨b, rest⟩ := pulled
      rw [RxStream.first_of_pull hx]
      rcases State.rxStep_streamScan hwn b rest with ⟨f, hstep, hscan⟩ | ⟨w, k, hstep, hk, hscan⟩
      · rw [hscan]
        exact .found (.pull hs hx (hstep ▸ .refl _ n))
      · rw [hscan]
        exact .of_reads (.pull hs hx (hstep ▸ .refl _ n)) (ih (hs.setWindow rest w k) hk)

/-- From an empty window the receive steps find the frame SCAN finds (R157). -/
theorem fetches_streamScan {s : State} (hs : s.Receiving) (hwn : s.wn = 0#3) (n : Nat) :
    Fetches id s n (streamScan (s.rx.first n)) := by
  simpa [hwn, pendingBytes_zero] using fetches_streamScan_pending (n := n) hs (by simp [hwn])

/-- From an empty window the receive steps find the packet RECV finds (R162). -/
theorem fetches_streamRecv {s : State} (hs : s.Receiving) (hwn : s.wn = 0#3) (n : Nat) :
    Fetches Frame.packet s n (streamRecv (s.rx.first n)) := by
  have hscan := fetches_streamScan hs hwn n
  unfold streamRecv
  generalize streamScan (s.rx.first n) = r at hscan
  cases hscan with
  | found h => exact .found h
  | waiting h h0 => exact .waiting h h0

/-! ### Fetches that skip foreign packets (R178, R194) -/

/-- The operation in progress takes no frame for another address than `a`: it empties the window and waits on. -/
def State.Skips (s : State) (a : Addr) : Prop :=
  ∀ (x : RxStream) (w f : Frame) (k : BitVec 3), f.packet.address ≠ a →
    ((s.setRx x).setWindow w k).frameAccept f = (s.setRx x).setWindow w 0#3

theorem State.Skips.setWindow {s : State} {a : Addr} (h : s.Skips a) (x : RxStream) (w : Frame) (k : BitVec 3) :
    ((s.setRx x).setWindow w k).Skips a :=
  fun y v f j => h y v f j

/-- Each packet skipped takes one from the bound, and at least four bytes from the stream, so the bound is never met. -/
theorem fetches_streamFilterWithin {a : Addr} {bound n : Nat} {s : State} (hs : s.Receiving) (hwn : s.wn = 0#3)
    (hskip : s.Skips a) (hbound : (s.rx.first n).length < bound) :
    Fetches Frame.packet s n (streamFilterWithin bound a (s.rx.first n)) := by
  induction bound generalizing s n with
  | zero => omega
  | succ bound ih =>
    have hrecv := fetches_streamRecv hs hwn n
    unfold streamFilterWithin
    generalize hr : streamRecv (s.rx.first n) = r at hrecv
    cases hrecv with
    | waiting h h0 => exact .waiting h h0
    | @found x f n' h =>
      by_cases ha : f.packet.address = a
      · simpa [ha] using Fetches.found (g := Frame.packet) h
      · have hlt : (x.first n').length < bound := by
          have := streamRecv_length hr
          omega
        rw [hskip x f f 4#3 ha] at h
        simpa [ha] using Fetches.of_reads h (ih (hs.setWindow x f 0#3) rfl (hskip.setWindow x f 0#3) hlt)

/-- From an empty window an operation that skips foreign frames finds the packet FILTER finds (R178). -/
theorem fetches_streamFilter {a : Addr} {s : State} (hs : s.Receiving) (hwn : s.wn = 0#3) (hskip : s.Skips a)
    (n : Nat) : Fetches Frame.packet s n (streamFilter a (s.rx.first n)) :=
  fetches_streamFilterWithin hs hwn hskip (Nat.lt_succ_self _)

/-! ## SCAN, RECV and FILTER against their stream functions (R12, R157, R162, R178) -/

/-! What FrameAccept does where a reading run accepts a frame: `WN` is emptied, then the operation takes it (R161). -/

theorem State.setWindow_emptyWindow (s : State) (w : Frame) (k : BitVec 3) :
    (s.setWindow w k).emptyWindow = s.setWindow w 0#3 := rfl

theorem State.frameAccept_scan {s : State} (hop : s.op = .scan) (x : RxStream) (w f : Frame) (k : BitVec 3) :
    ((s.setRx x).setWindow w k).frameAccept f = ((s.setRx x).setWindow w 0#3).complete (packFrame f) := by
  simp [State.frameAccept, hop, State.setWindow_emptyWindow]

theorem State.frameAccept_recv {s : State} (hop : s.op = .recv) (x : RxStream) (w f : Frame) (k : BitVec 3) :
    ((s.setRx x).setWindow w k).frameAccept f = ((s.setRx x).setWindow w 0#3).complete (packPacket f.packet) := by
  simp [State.frameAccept, hop, State.setWindow_emptyWindow]

theorem State.frameAccept_filter {s : State} (hop : s.op = .filter) (x : RxStream) (w f : Frame) (k : BitVec 3) :
    ((s.setRx x).setWindow w k).frameAccept f = ((s.setRx x).setWindow w 0#3).filterAccept f.packet := by
  simp [State.frameAccept, hop, State.setWindow_emptyWindow]

theorem State.frameAccept_combine {s : State} (hop : s.op = .combine) (x : RxStream) (w f : Frame) (k : BitVec 3) :
    ((s.setRx x).setWindow w k).frameAccept f = ((s.setRx x).setWindow w 0#3).combineAccept f.packet := by
  simp [State.frameAccept, hop, State.setWindow_emptyWindow]

theorem State.filterAccept_of_local {s : State} {p : Packet} (h : p.address = s.localAddr) :
    s.filterAccept p = s.complete (packPacket p) := by
  simp [State.filterAccept, h]

theorem State.filterAccept_of_foreign {s : State} {p : Packet} (h : p.address ≠ s.localAddr) :
    s.filterAccept p = s := by
  simp [State.filterAccept, h]

theorem State.Receiving.of_fresh {s : State} {o : Op} (h : freshReceive s o) (hrec : o.receives = true) :
    s.Receiving := by
  obtain ⟨hop, -, -, hready, tx, hch⟩ := h
  exact ⟨by rw [hop]; exact hrec, hready, by rw [hch]; rfl⟩

/-- A fresh receive operation that finds no frame waits, after all the bytes (R158). -/
theorem Fetches.waits_of_fresh {α : Type} {g : Frame → α} {s : State} {n : Nat} {o : Op}
    (h : Fetches g s n none) (hfresh : freshReceive s o) (hrec : o.receives = true) :
    ∃ t, runSteps (s.rx.first n).length s = some t ∧ t.op = o ∧ t.rspv = false ∧
      t.rx = s.rx.drop n ∧ (t.rx.pull = none → t.blocked) ∧ t.tx = s.tx ∧ t.taken = s.taken := by
  obtain ⟨hop, hrspv, -, -, -⟩ := hfresh
  cases h with
  | waiting h h0 => exact h.waiting h0 hop hrec hrspv

/-- A reading run whose last frame completes the operation with its packet (R161, R179): the response, and that just the
bytes up to the frame are pulled. -/
theorem Reads.completes {s : State} {x : RxStream} {f : Frame} {n n' : Nat}
    (h : Reads s n (((s.setRx x).setWindow f 4#3).frameAccept f) n')
    (hf : ((s.setRx x).setWindow f 4#3).frameAccept f =
      ((s.setRx x).setWindow f 0#3).complete (packPacket f.packet)) :
    ∃ t, runSteps ((s.rx.first n).length - (x.first n').length) s = some t ∧ t.awaitsHost ∧
      t.rx = s.rx.drop ((s.rx.first n).length - (x.first n').length) ∧
      t.rsp = packPacket f.packet ∧ t.wn = 0#3 ∧ t.tx = s.tx ∧ t.taken = s.taken := by
  rw [hf] at h
  obtain ⟨hrun, hrx⟩ := h.runSteps_eq
  exact ⟨_, hrun, ⟨rfl, rfl⟩, hrx, rfl, rfl, h.output_eq⟩

/-- Settles O41: each step is one byte of the scan; the first frame completes the operation. -/
theorem scanAndRecvAgreeWithStream : Obligations.ScanAndRecvAgreeWithStream := by
  intro s n
  constructor
  · intro hfresh
    have ⟨hop, _, hwn, _, _⟩ := hfresh
    have hfetch := fetches_streamScan (.of_fresh hfresh rfl) hwn n
    refine ⟨fun f rest hr => ?_, fun hr => (hr ▸ hfetch).waits_of_fresh hfresh rfl⟩
    rw [hr] at hfetch
    cases hfetch with
    | @found x f n' h =>
      have hf : ((s.setRx x).setWindow f 4#3).frameAccept f =
          { s with rx := x, w := f, rsp := packFrame f, rspv := true, op := .idle } := by
        rw [State.frameAccept_scan hop, ← hwn]
        rfl
      rw [hf] at h
      obtain ⟨hrun, hrx⟩ := h.runSteps_eq
      exact hrx ▸ hrun
  · intro hfresh
    have ⟨hop, _, hwn, _, _⟩ := hfresh
    have hfetch := fetches_streamRecv (.of_fresh hfresh rfl) hwn n
    refine ⟨fun p rest hr => ?_, fun hr => (hr ▸ hfetch).waits_of_fresh hfresh rfl⟩
    rw [hr] at hfetch
    cases hfetch with
    | found h => exact h.completes (State.frameAccept_recv hop ..)

theorem State.skips_of_filter {s : State} (hop : s.op = .filter) : s.Skips s.localAddr := by
  intro x w f k ha
  exact (State.frameAccept_filter hop x w f k).trans (State.filterAccept_of_foreign ha)

theorem streamFilterWithin_address {a : Addr} {bound : Nat} {bytes rest : List Byte} {p : Packet}
    (h : streamFilterWithin bound a bytes = some (p, rest)) : p.address = a := by
  induction bound generalizing bytes with
  | zero => cases h
  | succ bound ih =>
    unfold streamFilterWithin at h
    split at h
    · split at h
      · cases h
        assumption
      · exact ih h
    · cases h

/-- A filtered fetch returns a packet for the address (R178). -/
theorem streamFilter_address {a : Addr} {bytes rest : List Byte} {p : Packet}
    (h : streamFilter a bytes = some (p, rest)) : p.address = a :=
  streamFilterWithin_address h

/-- Settles O42: the steps skip what the filter skips; the first packet for the local address completes the
operation. -/
theorem filterAgreesWithStream : Obligations.FilterAgreesWithStream := by
  intro s n hfresh
  have ⟨hop, _, hwn, _, _⟩ := hfresh
  have hfetch := fetches_streamFilter (.of_fresh hfresh rfl) hwn (State.skips_of_filter hop) n
  refine ⟨fun p rest hr => ?_, fun hr => (hr ▸ hfetch).waits_of_fresh hfresh rfl⟩
  have ha := streamFilter_address hr
  rw [hr] at hfetch
  cases hfetch with
  | found h =>
    exact h.completes ((State.frameAccept_filter hop ..).trans (State.filterAccept_of_local ha))

/-! ## COMBINE against its stream function (R12, R193, R199) -/

/-! ### The tests on one packet -/

/-- The first packet of sequence 0 fills slot 0 (R195). -/
theorem State.combineAccept_test0 {s : State} {p : Packet} (ha : p.address = s.localAddr) (hc : s.cph = .p0)
    (hq : p.sequence = 0#3) : s.combineAccept p = (s.recordSlot0 p.data).setCph .p1 := by
  simp [State.combineAccept, ha, hc, hq]

/-- A local packet of sequence 1 fills slot 1 before the second test is made (R196). -/
theorem State.combineAccept_test1 {s : State} {p : Packet} (ha : p.address = s.localAddr) (hc : s.cph ≠ .p2)
    (hq : p.sequence = 1#3) : s.combineAccept p = (s.recordSlot1 p.data).setCph .p2 := by
  cases h : s.cph with
  | p0 => simp [State.combineAccept, ha, h, hq]
  | p1 => simp [State.combineAccept, ha, h, hq]
  | p2 => exact absurd h hc

/-- The third test and the vote (R197, R198). -/
def State.closeVote (s : State) (p : Packet) : State :=
  if p.sequence = 2#3 ∧ p.address = s.localAddr then (s.recordSlot2 p.data).completeVote else s.completeVote

/-- A packet the operation does not skip and neither of the first two tests takes ends the vote (R199). -/
theorem State.combineAccept_close {s : State} {p : Packet}
    (hskip : p.address = s.localAddr ∨ s.refetchFiltered = false ∧ s.cph ≠ .p0)
    (h0 : ¬ (s.cph = .p0 ∧ p.sequence = 0#3))
    (h1 : ¬ (s.cph ≠ .p2 ∧ p.sequence = 1#3 ∧ p.address = s.localAddr)) :
    s.combineAccept p = s.closeVote p := by
  have htaken : ¬ (p.address ≠ s.localAddr ∧ (s.refetchFiltered = true ∨ s.cph = .p0)) := by
    rintro ⟨ha, hr⟩
    rcases hskip with h | ⟨hf, hc⟩
    · exact ha h
    · simp [hf, hc] at hr
  have h1' : ¬ ((s.cph = .p0 ∨ s.cph = .p1) ∧ p.sequence = 1#3 ∧ p.address = s.localAddr) := by
    rintro ⟨hc, hq⟩
    exact h1 ⟨by rcases hc with hc | hc <;> simp [hc], hq⟩
  rw [State.combineAccept, if_neg htaken, if_neg h0, if_neg h1', State.closeVote]

theorem packByte_eq (b : Byte) : packByte b = 0#24 ++ b :=
  BitVec.setWidth_eq_append (by decide)

/-- The vote completes with the resolved byte, `RSP[31:8]` being 0 also on an empty window (R198, R200). -/
theorem State.completeVote_rsp (s : State) :
    ∃ b, s.completeVote.rsp = 0#24 ++ b ∧ ∀ b', resolve s.sv s.sd = some b' → b = b' := by
  rcases s.completeVote_cases with ⟨b, hb, h⟩ | ⟨hnone, h⟩
  · refine ⟨b, ?_, fun b' hb' => Option.some.inj (hb.symm.trans hb')⟩
    rw [h, State.complete_rsp, packByte_eq]
  · refine ⟨s.drawnByte, ?_, fun b' hb' => by simp [hnone] at hb'⟩
    rw [h, State.nextDraw_rsp, State.complete_rsp, packByte_eq]

/-- The vote completes the operation and leaves window count, slots and stream (R198). -/
theorem State.completeVote_fields (s : State) :
    s.completeVote.awaitsHost ∧ s.completeVote.wn = s.wn ∧ s.completeVote.sv = s.sv ∧ s.completeVote.sd = s.sd ∧
      s.completeVote.rx = s.rx := by
  rw [State.completeVote_frame]
  exact ⟨⟨rfl, rfl⟩, rfl, rfl, rfl, rfl⟩

/-! ### What a COMBINE comes to -/

/-- What a COMBINE in `s` comes to on the first `n` bytes of its stream: completed with the vote over the slots of `v`,
`v.rest` being left, or still waiting after all the bytes. -/
inductive Votes (s : State) (n : Nat) : Option VoteRun → Prop where
  | voted {t : State} {n' : Nat} {v : VoteRun} {b : Byte} (h : Reads s n t n') (hrest : v.rest = t.rx.first n')
      (hdone : t.awaitsHost) (hwn : t.wn = 0#3) (hsv : t.sv = v.sv) (hsd : t.sd = v.sd) (hrsp : t.rsp = 0#24 ++ b)
      (hvote : ∀ b', resolve v.sv v.sd = some b' → b = b') : Votes s n (some v)
  | waiting {t : State} {n' : Nat} (h : Reads s n t n') (h0 : t.rx.first n' = []) (hop : t.op = .combine)
      (hrspv : t.rspv = false) : Votes s n none

theorem Votes.of_reads {s t : State} {n n' : Nat} {r : Option VoteRun} (hr : Reads s n t n') (h : Votes t n' r) :
    Votes s n r := by
  cases h with
  | voted h hrest hdone hwn hsv hsd hrsp hvote => exact .voted (hr.trans h) hrest hdone hwn hsv hsd hrsp hvote
  | waiting h h0 hop hrspv => exact .waiting (hr.trans h) h0 hop hrspv

/-- A COMBINE in progress that waits for the first byte of a packet. -/
structure State.Combining (s : State) : Prop extends s.Receiving where
  combine : s.op = .combine
  noResponse : s.rspv = false
  emptyWn : s.wn = 0#3

/-- The vote window of a COMBINE whose current packet is `p`, `n` bytes of the stream being in sight. -/
def State.voteRun (s : State) (p : Packet) (n : Nat) : VoteRun :=
  { sv := s.sv, sd := s.sd, cur := p, rest := s.rx.first n }

theorem State.votes_completeVote {s : State} (hwn : s.wn = 0#3) (n : Nat) (p : Packet) :
    Votes s.completeVote n (some (s.voteRun p n)) := by
  obtain ⟨b, hrsp, hvote⟩ := s.completeVote_rsp
  obtain ⟨hdone, hwn', hsv, hsd, hrx⟩ := s.completeVote_fields
  exact .voted (.refl _ n) (by rw [hrx, State.voteRun]) hdone (hwn'.trans hwn) hsv hsd hrsp hvote

/-- The third test and the vote are those of the stream function (R193, R197). -/
theorem votes_closeVote {s : State} (hwn : s.wn = 0#3) (p : Packet) (n : Nat) :
    Votes (s.closeVote p) n (some (voteTest2 s.localAddr (s.voteRun p n))) := by
  unfold State.closeVote voteTest2
  by_cases h : p.sequence = 2#3 ∧ p.address = s.localAddr
  · simpa [h, State.voteRun] using State.votes_completeVote (s := s.recordSlot2 p.data) hwn n p
  · simpa [h, State.voteRun] using State.votes_completeVote hwn n p

theorem State.Combining.setWindow {s : State} (hs : s.Combining) (x : RxStream) (w : Frame) :
    ((s.setRx x).setWindow w 0#3).Combining :=
  ⟨hs.toReceiving.setWindow x w 0#3, hs.combine, hs.noResponse, rfl⟩

theorem State.skips_of_combine {s : State} (hop : s.op = .combine) (h : s.refetchFiltered = true ∨ s.cph = .p0) :
    s.Skips s.localAddr := by
  intro x w f k ha
  exact (State.frameAccept_combine hop x w f k).trans (if_pos ⟨ha, h⟩)

/-- A further packet is fetched as the stream function fetches it, under either `REFETCH_FILTERED` (R194). -/
theorem fetches_streamFetch2 {s : State} (hs : s.Combining) (n : Nat) :
    Fetches Frame.packet s n (streamFetch2 s.refetchFiltered s.localAddr (s.rx.first n)) := by
  unfold streamFetch2
  split
  case isTrue hf =>
    exact fetches_streamFilter hs.toReceiving hs.emptyWn (State.skips_of_combine hs.combine (.inl hf)) n
  case isFalse => exact fetches_streamRecv hs.toReceiving hs.emptyWn n

theorem streamFetch2_address {rf : Bool} {a : Addr} {bytes rest : List Byte} {p : Packet}
    (h : streamFetch2 rf a bytes = some (p, rest)) : p.address = a ∨ rf = false := by
  cases rf with
  | true => exact .inl (streamFilter_address h)
  | false => exact .inr rfl

/-- A COMBINE that fetches a packet votes as it does from that packet's accept on; with no packet it waits. -/
theorem Fetches.votes {s : State} {n : Nat} {r : Option (Packet × List Byte)} (h : Fetches Frame.packet s n r)
    (hs : s.Combining) {k : VoteRun → Option VoteRun}
    (hnext : ∀ (x : RxStream) (w : Frame) (p : Packet) (n' : Nat), r = some (p, x.first n') →
      Votes (((s.setRx x).setWindow w 0#3).combineAccept p) n'
        (k (((s.setRx x).setWindow w 0#3).voteRun p n'))) :
    Votes s n (r.bind fun q => k { sv := s.sv, sd := s.sd, cur := q.1, rest := q.2 }) := by
  cases h with
  | @found x f n' h =>
    rw [State.frameAccept_combine hs.combine] at h
    exact .of_reads h (hnext x f f.packet n' rfl)
  | waiting h h0 => exact .waiting h h0 hs.combine hs.noResponse

/-- The second and third test of R193. -/
def voteTests12 (rf : Bool) (a : Addr) (v : VoteRun) : Option VoteRun :=
  (voteTest1 rf a v).map (voteTest2 a)

/-- The three tests of R193. -/
def voteTests (rf : Bool) (a : Addr) (v : VoteRun) : Option VoteRun :=
  (voteTest0 rf a v).bind (voteTests12 rf a)

theorem streamCombine_eq (rf : Bool) (a : Addr) (sd : SlotData) (bytes : List Byte) :
    streamCombine rf a sd bytes =
      (streamFilter a bytes).bind fun q => voteTests rf a { sv := 0#3, sd := sd, cur := q.1, rest := q.2 } := by
  unfold streamCombine
  cases streamFilter a bytes with
  | none => rfl
  | some q =>
    simp only [Option.bind_some, voteTests]
    cases voteTest0 rf a { sv := 0#3, sd := sd, cur := q.1, rest := q.2 } with
    | none => rfl
    | some v =>
      simp only [Option.bind_some, voteTests12]
      cases voteTest1 rf a v <;> rfl

theorem voteTests_of_seq0 {rf : Bool} {a : Addr} {v : VoteRun} (hq : v.cur.sequence = 0#3) :
    voteTests rf a v = (streamFetch2 rf a v.rest).bind fun q => voteTests12 rf a
      { sv := fillSlot v.sv 0, sd := { v.sd with d0 := v.cur.data }, cur := q.1, rest := q.2 } := by
  rw [voteTests, voteTest0, if_pos hq]
  cases streamFetch2 rf a v.rest <;> rfl

theorem voteTests_of_not_seq0 {rf : Bool} {a : Addr} {v : VoteRun} (hq : v.cur.sequence ≠ 0#3) :
    voteTests rf a v = voteTests12 rf a v := by
  rw [voteTests, voteTest0, if_neg hq, Option.bind_some]

theorem voteTests12_of_seq1 {rf : Bool} {a : Addr} {v : VoteRun}
    (hq : v.cur.sequence = 1#3 ∧ v.cur.address = a) :
    voteTests12 rf a v = (streamFetch2 rf a v.rest).bind fun q => some (voteTest2 a
      { sv := fillSlot v.sv 1, sd := { v.sd with d1 := v.cur.data }, cur := q.1, rest := q.2 }) := by
  rw [voteTests12, voteTest1, if_pos hq]
  cases streamFetch2 rf a v.rest <;> rfl

theorem voteTests12_of_not_seq1 {rf : Bool} {a : Addr} {v : VoteRun}
    (hq : ¬ (v.cur.sequence = 1#3 ∧ v.cur.address = a)) : voteTests12 rf a v = some (voteTest2 a v) := by
  rw [voteTests12, voteTest1, if_neg hq, Option.map_some]

/-- From the second test on (R196, R199): a COMBINE votes as the stream function does. -/
theorem votes_tests12 {s : State} (hs : s.Combining) {p : Packet}
    (hskip : p.address = s.localAddr ∨ s.refetchFiltered = false ∧ s.cph ≠ .p0)
    (h0 : ¬ (s.cph = .p0 ∧ p.sequence = 0#3)) (hc : s.cph ≠ .p2) (n : Nat) :
    Votes (s.combineAccept p) n (voteTests12 s.refetchFiltered s.localAddr (s.voteRun p n)) := by
  by_cases hq : p.sequence = 1#3 ∧ p.address = s.localAddr
  · rw [State.combineAccept_test1 hq.2 hc hq.1, voteTests12_of_seq1 hq]
    have hs' : ((s.recordSlot1 p.data).setCph .p2).Combining :=
      ⟨⟨hs.op, hs.ready, hs.channel⟩, hs.combine, hs.noResponse, hs.emptyWn⟩
    refine (fetches_streamFetch2 hs' n).votes hs' (k := fun v => some (voteTest2 s.localAddr v)) ?_
    intro x w p' n' hfetch
    rw [State.combineAccept_close]
    · exact votes_closeVote rfl p' n'
    · exact (streamFetch2_address hfetch).imp_right fun hf => ⟨hf, by simp⟩
    · simp
    · simp
  · rw [State.combineAccept_close hskip h0 fun h => hq h.2, voteTests12_of_not_seq1 hq]
    exact votes_closeVote hs.emptyWn p n

/-- From the first local packet on (R195, R199): a COMBINE votes as the stream function does. -/
theorem votes_tests {s : State} (hs : s.Combining) {p : Packet} (ha : p.address = s.localAddr) (hc : s.cph = .p0)
    (n : Nat) : Votes (s.combineAccept p) n (voteTests s.refetchFiltered s.localAddr (s.voteRun p n)) := by
  by_cases hq : p.sequence = 0#3
  · rw [State.combineAccept_test0 ha hc hq, voteTests_of_seq0 hq]
    have hs' : ((s.recordSlot0 p.data).setCph .p1).Combining :=
      ⟨⟨hs.op, hs.ready, hs.channel⟩, hs.combine, hs.noResponse, hs.emptyWn⟩
    refine (fetches_streamFetch2 hs' n).votes hs' (k := voteTests12 s.refetchFiltered s.localAddr) ?_
    intro x w p' n' hfetch
    exact votes_tests12 (hs'.setWindow x w) ((streamFetch2_address hfetch).imp_right fun hf => ⟨hf, by simp⟩)
      (by simp) (by simp) n'
  · rw [voteTests_of_not_seq0 hq]
    exact votes_tests12 hs (.inl ha) (fun h => hq h.2) (by simp [hc]) n

/-- A COMBINE votes as the stream function does (R193). -/
theorem votes_streamCombine {s : State} (hs : s.Combining) (hc : s.cph = .p0) (hsv : s.sv = 0#3) (n : Nat) :
    Votes s n (streamCombine s.refetchFiltered s.localAddr s.sd (s.rx.first n)) := by
  rw [streamCombine_eq, ← hsv]
  have hfetch := fetches_streamFilter hs.toReceiving hs.emptyWn (State.skips_of_combine hs.combine (.inr hc)) n
  exact hfetch.votes hs fun x w p n' hp => votes_tests (hs.setWindow x w) (streamFilter_address hp) hc n'

/-- Settles O43: each fetch of the COMBINE is one of the stream function, and each packet is tested as there. -/
theorem combineAgreesWithStream : Obligations.CombineAgreesWithStream := by
  intro s n hfresh hc hsv
  have ⟨hop, hrspv, hwn, _, _⟩ := hfresh
  have hvotes := votes_streamCombine ⟨.of_fresh hfresh rfl, hop, hrspv, hwn⟩ hc hsv n
  refine ⟨fun v hr => ?_, fun hr => ?_⟩
  · rw [hr] at hvotes
    cases hvotes with
    | voted h hrest hdone hwn hsv hsd hrsp hvote =>
      rw [hrest]
      obtain ⟨hrun, hrx⟩ := h.runSteps_eq
      exact ⟨_, _, hrun, hdone, hrx, hsv, hsd, hrsp, hvote, hwn, h.output_eq⟩
  · rw [hr] at hvotes
    cases hvotes with
    | waiting h h0 hop hrspv => exact h.waiting h0 hop rfl hrspv

end Sys2Proof.Machine

namespace Sys2Proof.Machine

/-! ## The step from both sides (R35) -/

/-- One step, by the turn of host and channel (log 1): what `step_cases` finds, with the two ready cases as one. -/
inductive MachineStep (s : State) : State → Prop where
  | ready {turns : List Turn} {t : State} (hs : s.readyThen turns) (hr : ReadyStep (s.setSched turns) t) :
      MachineStep s t
  | wait {turns : List Turn} (hs : s.sched = .wait :: turns) : MachineStep s (s.setSched turns)
  | reset {turns : List Turn} (hs : s.sched = .reset :: turns) : MachineStep s (s.setSched turns).hostReset
  | openChannel {tx rx : Bool} {turns : List Turn} (hs : s.sched = .openChannel tx rx :: turns)
      (hc : s.channel = .closed) : MachineStep s { s with sched := turns, channel := .opened tx rx }

/-- An engine that accepts runs the row of the word offered (R101). -/
theorem fetchReady_of_offered {s : State} (hs : s.accepts) {c : CmdWord} {rest : List CmdWord}
    (hc : s.cmds = c :: rest) : s.fetchReady = .run (decodeCommand c) (s.setCmds rest) := by
  obtain ⟨hop, hrspv⟩ := hs
  simp [State.fetchReady, hop, hrspv, hc]

/-- A command row's effect in an engine that accepts (R101). -/
theorem exec_of_accepts {s t : State} (hs : s.accepts) {i : Instr} {f : State → State}
    (hf : commandEffect i = some f) (ht : f s = t) : exec i s = .next t := by
  rw [exec_command i f hf, State.accept_of_idle hs.1 hs.2, ht]

/-- Every kind of step of R35 is what the fetch of a ready engine comes to: the converse of `fetchReady_outcome`. -/
theorem ReadyStep.outcome_eq {s t : State} (h : ReadyStep s t) : s.fetchReady.outcome = .next t := by
  cases h with
  | takeResponse ho hr => simp [State.fetchReady, ho, hr, Fetched.outcome]
  | quiescent ho hr hc => simp [State.fetchReady, ho, hr, hc, Fetched.outcome]
  | accept ho hr c rest f hc hf =>
    rw [fetchReady_of_offered ⟨ho, hr⟩ hc]
    exact exec_of_accepts (s := s.setCmds rest) ⟨ho, hr⟩ hf rfl
  | transmit ho hch => simp [State.fetchReady, ho, hch, Fetched.outcome]
  | blocked ho hx => simp [fetchReady_of_receives ho, State.fetchByte, hx, Fetched.outcome]
  | receive ho hch b rest hx =>
    rw [fetchReady_of_receives ho]
    rcases fetchByte_outcome s with ⟨hx', -⟩ | ⟨b', rest', hx', -, h⟩ | ⟨b', rest', r, -, hch', -⟩
    · simp [hx] at hx'
    · cases hx.symm.trans hx'
      exact h
    · simp [hch] at hch'

theorem State.setSched_of_empty {s : State} (hs : s.sched = []) : s.setSched [] = s := by
  rw [← hs]
  rfl

/-- The next states of a step, once from both sides. -/
theorem step_eq_next_iff {s t : State} : step s = .next t ↔ MachineStep s t := by
  constructor
  · intro h
    rcases step_cases h with ⟨hs, hr⟩ | ⟨turns, hs, hr⟩ | ⟨turns, hs, rfl⟩ | ⟨turns, hs, rfl⟩ |
      ⟨tx, rx, turns, hs, hc, rfl⟩
    · exact .ready (.inl ⟨hs, rfl⟩) (by rwa [State.setSched_of_empty hs])
    · exact .ready (.inr hs) hr
    · exact .wait hs
    · exact .reset hs
    · exact .openChannel hs hc
  · intro h
    cases h with
    | ready hs hr => rw [step_of_readyThen hs, hr.outcome_eq]
    | wait hs => simp [step, State.fetch, hs, Fetched.outcome]
    | reset hs => simp [step, State.fetch, hs, Fetched.outcome]
    | openChannel hs hc => simp [step, State.fetch, hs, hc, Fetched.outcome]

/-! ## The accept step and the frame step run what is decoded (R101, R160) -/

/-- Settles O12: each row is its effect, run by an engine that accepts. -/
theorem commandsAccepted : Obligations.CommandsAccepted := by
  intro s hs
  refine ⟨?nop, fun a d => ?encode, ?scan, ?recv, fun a => ?filter, fun a => ?combine, ?reserved6, ?reserved7⟩
  all_goals exact exec_of_accepts hs rfl rfl

/-- Settles O24: the fetch of an engine that accepts is the word offered. -/
theorem stepRunsOfferedCommand : Obligations.StepRunsOfferedCommand := by
  intro s c rest i turns hs hready hc hdecode
  cases hdecode
  have hfetch : (s.setSched turns).fetchReady = .run (decodeCommand c) ((s.setSched turns).setCmds rest) :=
    fetchReady_of_offered (s := s.setSched turns) hs hc
  rw [step_of_readyThen hready, hfetch]
  rfl

/-- A byte behind three others fills the window (R160). -/
theorem State.windowPush_of_three {s : State} (hwn : s.wn = 3#3) (b : Byte) :
    s.windowPush b = s.setWindow { s.w with b3 := b } 4#3 := by
  simp [State.windowPush, hwn, windowSet]

/-- A byte shifts a full window (R156, R160). -/
theorem State.windowPush_of_four {s : State} (hwn : s.wn = 4#3) (b : Byte) :
    s.windowPush b = s.setWindow (windowShift s.w b) 4#3 := by
  simp [State.windowPush, hwn]

/-- A byte that makes the window a frame fetches that frame's row (R160, R161). -/
theorem fetchByte_of_frame {s : State} {b : Byte} {rest : RxStream} {f : Frame} {i : Instr}
    (hx : s.rx.pull = some (b, rest)) (hch : s.channel.receiveRefusal = none)
    (hpush : (s.setRx rest).windowPush b = (s.setRx rest).setWindow f 4#3) (hf : decodeFrame f = .ok i) :
    s.fetchByte = .run i ((s.setRx rest).setWindow f 4#3) := by
  simp [State.fetchByte, hx, hch, hpush, hf]

/-- Settles O25: the window the byte fills or shifts is the frame that is fetched. -/
theorem stepRunsDecodedFrame : Obligations.StepRunsDecodedFrame := by
  intro s b rest f i tx turns hop hready hch hx hwindow hdecode
  have hpush : ((s.setSched turns).setRx rest).windowPush b = ((s.setSched turns).setRx rest).setWindow f 4#3 := by
    rcases hwindow with ⟨hwn, rfl⟩ | ⟨hwn, rfl⟩
    · exact State.windowPush_of_three (s := (s.setSched turns).setRx rest) hwn b
    · exact State.windowPush_of_four (s := (s.setSched turns).setRx rest) hwn b
  have hfetch := fetchByte_of_frame (s := s.setSched turns) hx (by simp [hch, Channel.receiveRefusal]) hpush hdecode
  rw [step_of_readyThen hready, fetchReady_of_receives (by simpa using hop), hfetch]
  rfl

/-! ## The invariants of R38 -/

/-- With an empty window the invariants are those of the response, the transmit count and the vote window. -/
theorem State.Inv.of_emptyWindow {s : State} (hwn : s.wn = 0#3) (hresponse : s.rspv = true → s.op = .idle)
    (htcnt : s.tcnt.toNat ≤ 11) (hvote : s.op = .combine → s.cph.windowFits s.sv) : s.Inv where
  emptyWindow _ := hwn
  responseIdle := hresponse
  windowCount := by simp [hwn]
  transmitCount := htcnt
  voteWindow := hvote
  notValid _ h4 := by simp [hwn] at h4

theorem State.Inv.of_idle {s : State} (hop : s.op = .idle) (hwn : s.wn = 0#3) (htcnt : s.tcnt.toNat ≤ 11) : s.Inv :=
  .of_emptyWindow hwn (fun _ => hop) htcnt fun h => by simp [hop] at h

/-- Settles O34: an idle engine with an empty window and no byte sent. -/
theorem invariantsAtReset : Obligations.InvariantsAtReset :=
  State.Inv.of_idle rfl rfl (by decide)

/-- The invariants speak of engine registers only. -/
theorem State.Inv.setSched {s : State} (h : s.Inv) (turns : List Turn) : (s.setSched turns).Inv :=
  ⟨h.emptyWindow, h.responseIdle, h.windowCount, h.transmitCount, h.voteWindow, h.notValid⟩

theorem State.Inv.complete {s : State} (h : s.Inv) (hwn : s.wn = 0#3) (v : RspWord) : (s.complete v).Inv :=
  .of_idle rfl hwn h.transmitCount

/-- The vote ends the operation with the window empty (R198, R200). -/
theorem State.Inv.completeVote {s : State} (htcnt : s.tcnt.toNat ≤ 11) (hwn : s.wn = 0#3) : s.completeVote.Inv := by
  rw [State.completeVote_frame]
  exact .of_idle rfl hwn htcnt

/-- An accept step begins its operation with an empty window, and a COMBINE at `P0` with no slot filled (R101). -/
theorem State.Inv.commandEffect {s : State} (h : s.Inv) (hs : s.accepts) {i : Instr} {f : State → State}
    (hf : commandEffect i = some f) : (f s).Inv := by
  obtain ⟨hop, hrspv⟩ := hs
  have hwn : s.wn = 0#3 := h.emptyWindow (by rw [hop]; rfl)
  have htcnt := h.transmitCount
  cases i <;> simp only [Machine.commandEffect, Option.some.injEq, reduceCtorEq] at hf <;> subst hf
  case nop | reserved6 | reserved7 => exact h.complete hwn _
  case encode a d => exact .of_emptyWindow hwn (by simp [hrspv]) (by simp) (by simp)
  case scan | recv | filter a => exact .of_emptyWindow rfl (by simp [hrspv]) htcnt (by simp)
  case combine a => exact .of_emptyWindow rfl (by simp [hrspv]) htcnt fun _ => rfl

/-- TxStep counts up to 11 and completes there (R142). -/
theorem State.Inv.txStep {s : State} (h : s.Inv) (hop : s.op = .encode) : s.txStep.Inv := by
  have hwn : s.wn = 0#3 := h.emptyWindow (by rw [hop]; rfl)
  have htcnt := h.transmitCount
  rcases s.txStep_cases with ⟨-, hstep⟩ | ⟨hlast, hstep⟩ <;> rw [hstep]
  · exact .of_idle rfl hwn htcnt
  · refine .of_emptyWindow hwn h.responseIdle ?_ (by simp [hop])
    show (s.tcnt + 1#4).toNat ≤ 11
    bv_omega

/-- Slot 0, recorded at `P0`, leads to `P1` (R195). -/
theorem Phase.windowFits_fillSlot0 {sv : BitVec 3} (h : Phase.p0.windowFits sv) :
    Phase.p1.windowFits (fillSlot sv 0) := by
  have hsv : sv = 0#3 := h
  subst hsv
  rfl

/-- Slot 1, recorded at `P0` or `P1`, leads to `P2` (R196). -/
theorem Phase.windowFits_fillSlot1 {p : Phase} {sv : BitVec 3} (hp : p = .p0 ∨ p = .p1) (h : p.windowFits sv) :
    Phase.p2.windowFits (fillSlot sv 1) := by
  rcases hp with rfl | rfl
  · have hsv : sv = 0#3 := h
    subst hsv
    exact ⟨rfl, rfl⟩
  · have hsv : sv = 1#3 := h
    subst hsv
    exact ⟨rfl, rfl⟩

/-- CombineAccept keeps the invariants: each recorded slot fits the phase it leads to (R199). -/
theorem State.Inv.combineAccept {s : State} (h : s.Inv) (hop : s.op = .combine) (hwn : s.wn = 0#3) (p : Packet) :
    (s.combineAccept p).Inv := by
  have hfits := h.voteWindow hop
  rcases s.combineAccept_cases p with ⟨-, -, he⟩ | ⟨-, hc, -, he⟩ | ⟨-, hc, -, he⟩ | ⟨-, -, he⟩ |
    ⟨-, -, -, -, he⟩ <;> rw [he]
  · exact h
  · rw [hc] at hfits
    exact .of_emptyWindow hwn h.responseIdle h.transmitCount fun _ => Phase.windowFits_fillSlot0 hfits
  · exact .of_emptyWindow hwn h.responseIdle h.transmitCount fun _ => Phase.windowFits_fillSlot1 hc hfits
  · exact .completeVote h.transmitCount hwn
  · exact .completeVote h.transmitCount hwn

/-- FrameAccept keeps the invariants once the window is emptied, whatever the window was (R160, R161). -/
theorem State.Inv.frameAccept {s : State} (h : s.emptyWindow.Inv) (hop : s.op.receives = true) (f : Frame) :
    (s.frameAccept f).Inv := by
  rcases s.frameAccept_cases f with ⟨hidle, -⟩ | ⟨-, he⟩ | ⟨-, he⟩ | ⟨-, he⟩ | ⟨hcombine, he⟩
  · simp [hop] at hidle
  · rw [he]
    exact h.complete rfl _
  · rw [he]
    exact h.complete rfl _
  · rw [he]
    rcases s.emptyWindow.filterAccept_cases f.packet with ⟨-, hf⟩ | ⟨-, hf⟩ <;> rw [hf]
    · exact h.complete rfl _
    · exact h
  · rw [he]
    exact h.combineAccept hcombine rfl _

/-- A window push keeps the count in range (R160). -/
theorem State.windowPush_count {s : State} (h : s.wn.toNat ≤ 4) (b : Byte) : (s.windowPush b).wn.toNat ≤ 4 := by
  rcases s.windowPush_cases b with ⟨hlt, he⟩ | ⟨-, he⟩ <;> rw [he, State.setWindow_wn]
  · bv_omega
  · exact h

/-- The receive step keeps the invariants: a full valid window is never kept (R156, R160). -/
theorem State.Inv.rxStep {s : State} (h : s.Inv) (hop : s.op.receives = true) (b : Byte) (rest : RxStream) :
    (s.rxStep b rest).Inv := by
  have hframe := (s.setRx rest).windowPush_frame b
  have hrspv : s.rspv = true → s.op = .idle := h.responseIdle
  unfold State.rxStep
  split
  · refine State.Inv.frameAccept ?_ (by rw [hframe]; exact hop) _
    rw [hframe]
    exact .of_emptyWindow rfl hrspv h.transmitCount h.voteWindow
  · rename_i hnot
    have hcount := State.windowPush_count (s := s.setRx rest) h.windowCount b
    rw [hframe]
    exact ⟨fun hidle => by simp [hop] at hidle, hrspv, hcount, h.transmitCount, h.voteWindow,
      fun _ h4 => Bool.eq_false_iff.2 fun hv => hnot ⟨h4, hv⟩⟩

/-- Each kind of step of R35 keeps the invariants. -/
theorem ReadyStep.inv {s t : State} (hstep : ReadyStep s t) (h : s.Inv) : t.Inv := by
  cases hstep with
  | takeResponse ho _ => exact .of_idle ho (h.emptyWindow (by rw [ho]; rfl)) h.transmitCount
  | quiescent => exact h
  | accept ho hr _ rest _ _ hf =>
    have h' : (s.setCmds rest).Inv :=
      ⟨h.emptyWindow, h.responseIdle, h.windowCount, h.transmitCount, h.voteWindow, h.notValid⟩
    exact h'.commandEffect ⟨ho, hr⟩ hf
  | transmit ho _ => exact h.txStep ho
  | blocked => exact h
  | receive ho _ b rest _ => exact h.rxStep ho b rest

/-- Settles O33, by the cases of the step. -/
theorem invariantsKept : Obligations.InvariantsKept := by
  intro s t h hstep
  cases step_eq_next_iff.1 hstep with
  | ready _ hr => exact hr.inv (h.setSched _)
  | wait => exact h.setSched _
  | reset => exact .of_idle rfl rfl (by simp)
  | openChannel => exact ⟨h.emptyWindow, h.responseIdle, h.windowCount, h.transmitCount, h.voteWindow, h.notValid⟩

/-! ## Two states that differ in registers which hold no value (R34, R36, R38 item 5) -/

/-- Why a step is refused (R253, log 13). -/
inductive Refuses (s : State) : Refusal → Prop where
  | transmit {turns : List Turn} {r : Refusal} (hs : s.readyThen turns) (ho : s.op = .encode)
      (hch : s.channel.transmitRefusal = some r) : Refuses s r
  | receive {turns : List Turn} {r : Refusal} (hs : s.readyThen turns) (ho : s.op.receives = true)
      (hx : s.rx.pull ≠ none) (hch : s.channel.receiveRefusal = some r) : Refuses s r
  | openChannel {tx rx : Bool} {turns : List Turn} (hs : s.sched = .openChannel tx rx :: turns)
      (hc : s.channel ≠ .closed) : Refuses s .channelAlreadyOpen

/-- An idle engine is refused nothing (R220). -/
theorem ReadyStep.of_idle {s : State} (ho : s.op = .idle) : ∃ t, ReadyStep s t := by
  cases hr : s.rspv with
  | true => exact ⟨_, .takeResponse ho hr⟩
  | false =>
    cases hc : s.cmds with
    | nil => exact ⟨_, .quiescent ho hr hc⟩
    | cons c rest =>
      obtain ⟨f, hf⟩ := commandEffect_decodeCommand c
      exact ⟨_, .accept ho hr c rest f hc hf⟩

/-- A ready engine is refused only the byte its operation would transfer (R253). -/
theorem fetchReady_eq_refused_iff {s : State} {r : Refusal} :
    s.fetchReady.outcome = .refused r ↔
      s.op = .encode ∧ s.channel.transmitRefusal = some r ∨
      s.op.receives = true ∧ s.rx.pull ≠ none ∧ s.channel.receiveRefusal = some r := by
  by_cases hreceives : s.op.receives = true
  · have hop : s.op ≠ .encode := by
      intro hop
      simp [hop, Op.receives] at hreceives
    rw [fetchReady_of_receives hreceives]
    rcases fetchByte_outcome s with ⟨hx, h⟩ | ⟨b, rest, hx, hch, h⟩ | ⟨b, rest, r', hx, hch, h⟩
    · simp [h, hx, hop]
    · simp [h, hch, hop]
    · simp [h, hx, hch, hop, hreceives]
  · cases hop : s.op with
    | idle =>
      obtain ⟨t, ht⟩ := ReadyStep.of_idle hop
      simp [ht.outcome_eq, Op.receives]
    | encode =>
      cases hch : s.channel.transmitRefusal <;>
        simp [State.fetchReady, hop, hch, Fetched.outcome, Op.receives]
    | scan | recv | filter | combine => simp [hop, Op.receives] at hreceives

/-- The refusals of a step, from both sides. -/
theorem step_eq_refused_iff {s : State} {r : Refusal} : step s = .refused r ↔ Refuses s r := by
  have ready {turns : List Turn} (hs : s.readyThen turns)
      (h : (s.setSched turns).fetchReady.outcome = .refused r) : Refuses s r := by
    rcases fetchReady_eq_refused_iff.1 h with ⟨ho, hch⟩ | ⟨ho, hx, hch⟩
    · exact .transmit hs ho hch
    · exact .receive hs ho hx hch
  constructor
  · intro h
    match hs : s.sched with
    | [] => exact ready (.inl ⟨hs, rfl⟩) (by rwa [← step_of_readyThen (.inl ⟨hs, rfl⟩)])
    | .ready :: turns => exact ready (.inr hs) (by rwa [← step_of_readyThen (.inr hs)])
    | .wait :: turns => simp [step_eq_next_iff.2 (.wait hs)] at h
    | .reset :: turns => simp [step_eq_next_iff.2 (.reset hs)] at h
    | .openChannel tx rx :: turns =>
      by_cases hc : s.channel = .closed
      · simp [step_eq_next_iff.2 (.openChannel hs hc)] at h
      · cases hch : s.channel with
        | closed => exact absurd hch hc
        | opened tx' rx' =>
          simp only [step, State.fetch, hs, hch, Fetched.outcome, Host.Outcome.refused.injEq] at h
          exact h ▸ .openChannel hs hc
  · intro h
    cases h with
    | transmit hs ho hch =>
      rw [step_of_readyThen hs]
      exact fetchReady_eq_refused_iff.2 (.inl ⟨ho, hch⟩)
    | receive hs ho hx hch =>
      rw [step_of_readyThen hs]
      exact fetchReady_eq_refused_iff.2 (.inr ⟨ho, hx, hch⟩)
    | openChannel hs hc =>
      cases hch : s.channel with
      | closed => exact absurd hch hc
      | opened tx' rx' => simp [step, State.fetch, hs, hch, Fetched.outcome]

/-! ### The window and the slots -/

/-- A full window has no stale byte. -/
theorem windowAgrees.eq_of_full {n : BitVec 3} {w v : Frame} (h : windowAgrees n w v) (hn : 4 ≤ n.toNat) : w = v := by
  obtain ⟨h0, h1, h2, h3⟩ := h
  cases w
  cases v
  exact Frame.mk.injEq .. ▸ ⟨h0 (by omega), h1 (by omega), h2 (by omega), h3 (by omega)⟩

theorem windowAgrees_empty (w v : Frame) : windowAgrees 0#3 w v := by
  simp [windowAgrees]

theorem windowAgrees_refl (n : BitVec 3) (w : Frame) : windowAgrees n w w :=
  ⟨fun _ => rfl, fun _ => rfl, fun _ => rfl, fun _ => rfl⟩

/-- A byte stored behind the others is one that agrees (R160). -/
theorem windowAgrees.windowSet {n : BitVec 3} {w v : Frame} (h : windowAgrees n w v) (hn : n < 4#3) (b : Byte) :
    windowAgrees (n + 1#3) (windowSet w n b) (windowSet v n b) := by
  have hcount : n = 0#3 ∨ n = 1#3 ∨ n = 2#3 ∨ n = 3#3 := by bv_omega
  rcases hcount with rfl | rfl | rfl | rfl <;> simp_all [windowAgrees, Machine.windowSet]

theorem slotsAgree_empty (x y : SlotData) : slotsAgree 0#3 x y := by
  simp [slotsAgree, slotFilled]

/-- The vote reads filled slots only (R123). -/
theorem slotsAgree.resolve_eq {sv : BitVec 3} {x y : SlotData} (h : slotsAgree sv x y) :
    resolve sv x = resolve sv y := by
  obtain ⟨h0, h1, h2⟩ := h
  unfold resolve
  cases hs0 : slotFilled sv 0 <;> cases hs1 : slotFilled sv 1 <;> cases hs2 : slotFilled sv 2 <;>
    simp [hs0, hs1, hs2] at h0 h1 h2 <;> simp [*]

theorem slotFilled_fillSlot (sv : BitVec 3) {i : Nat} (hi : i < 3) (j : Nat) :
    slotFilled (fillSlot sv i) j = (slotFilled sv j || decide (j = i)) := by
  simp only [slotFilled, fillSlot, BitVec.getLsbD_or, BitVec.getLsbD_shiftLeft, BitVec.getLsbD_one]
  by_cases hj : j = i
  · simp [hj, hi]
  · have hij : j < i ∨ j - i ≠ 0 := by omega
    rcases hij with h | h <;> simp [h, hj]

/-! Recording the same byte in a slot makes that slot agree and leaves the others (R195 to R197). -/

theorem slotsAgree.record0 {sv : BitVec 3} {x y : SlotData} (h : slotsAgree sv x y) (b : Byte) :
    slotsAgree (fillSlot sv 0) { x with d0 := b } { y with d0 := b } := by
  obtain ⟨-, h1, h2⟩ := h
  simpa [slotsAgree, slotFilled_fillSlot] using ⟨h1, h2⟩

theorem slotsAgree.record1 {sv : BitVec 3} {x y : SlotData} (h : slotsAgree sv x y) (b : Byte) :
    slotsAgree (fillSlot sv 1) { x with d1 := b } { y with d1 := b } := by
  obtain ⟨h0, -, h2⟩ := h
  simpa [slotsAgree, slotFilled_fillSlot] using ⟨h0, h2⟩

theorem slotsAgree.record2 {sv : BitVec 3} {x y : SlotData} (h : slotsAgree sv x y) (b : Byte) :
    slotsAgree (fillSlot sv 2) { x with d2 := b } { y with d2 := b } := by
  obtain ⟨h0, h1, -⟩ := h
  simpa [slotsAgree, slotFilled_fillSlot] using ⟨h0, h1⟩

/-! ### Each operation of the step keeps the two states alike -/

namespace State.sameLive

/-- Idle engines are alike in their response, streams, ports and environment: every other register is stale (R36). -/
theorem of_idle {s t : State} (hs : s.op = .idle) (ht : t.op = .idle) (hrspv : s.rspv = t.rspv)
    (hrsp : s.rspv = true → s.rsp = t.rsp) (hstreams : s.rx = t.rx ∧ s.tx = t.tx)
    (hports : s.cmds = t.cmds ∧ s.taken = t.taken)
    (henv : s.channel = t.channel ∧ s.sched = t.sched ∧ s.refetchFiltered = t.refetchFiltered ∧ s.draws = t.draws) :
    s.sameLive t where
  op := hs.trans ht.symm
  rspv := hrspv
  wn h := by simp [hs, Op.receives] at h
  window h := by simp [hs, Op.receives] at h
  transmit h := by simp [hs] at h
  localAddr h := by simp [hs] at h
  vote h := by simp [hs] at h
  rsp := hrsp
  streams := hstreams
  ports := hports
  environment := henv

variable {s t : State}

theorem setSched (h : s.sameLive t) (turns : List Turn) : (s.setSched turns).sameLive (t.setSched turns) :=
  have ⟨hch, _, hrf, hdraws⟩ := h.environment
  { h with environment := ⟨hch, rfl, hrf, hdraws⟩ }

theorem setCmds (h : s.sameLive t) (words : List CmdWord) : (s.setCmds words).sameLive (t.setCmds words) :=
  { h with ports := ⟨rfl, h.ports.2⟩ }

theorem setRx (h : s.sameLive t) (rest : RxStream) : (s.setRx rest).sameLive (t.setRx rest) :=
  { h with streams := ⟨rfl, h.streams.2⟩ }

theorem openChannel (h : s.sameLive t) (tx rx : Bool) (turns : List Turn) :
    State.sameLive { s with sched := turns, channel := .opened tx rx }
      { t with sched := turns, channel := .opened tx rx } :=
  have ⟨_, _, hrf, hdraws⟩ := h.environment
  { h with environment := ⟨rfl, rfl, hrf, hdraws⟩ }

theorem emptyWindow (h : s.sameLive t) : s.emptyWindow.sameLive t.emptyWindow :=
  { h with wn := fun _ => rfl, window := fun _ => windowAgrees_empty _ _ }

theorem takeResponse (h : s.sameLive t) (hrspv : s.rspv = true) : s.takeResponse.sameLive t.takeResponse :=
  { h with
    rspv := rfl
    rsp := nofun
    ports := ⟨h.ports.1, by rw [State.takeResponse_taken, State.takeResponse_taken, h.ports.2, h.rsp hrspv]⟩ }

theorem txPush (h : s.sameLive t) (b : Byte) : (s.txPush b).sameLive (t.txPush b) :=
  { h with streams := ⟨h.streams.1, by rw [State.txPush_tx, State.txPush_tx, h.streams.2]⟩ }

theorem nextDraw (h : s.sameLive t) : s.nextDraw.sameLive t.nextDraw :=
  have ⟨hch, hsched, hrf, hdraws⟩ := h.environment
  { h with environment := ⟨hch, hsched, hrf, congrArg (· + 1) hdraws⟩ }

theorem complete (h : s.sameLive t) (v : RspWord) : (s.complete v).sameLive (t.complete v) :=
  of_idle rfl rfl rfl (fun _ => rfl) h.streams h.ports h.environment

/-- The draws of a reset are those of the counter, which is the same (R251). -/
theorem hostReset (h : s.sameLive t) : s.hostReset.sameLive t.hostReset :=
  have ⟨hch, hsched, hrf, hdraws⟩ := h.environment
  of_idle rfl rfl rfl nofun h.streams h.ports ⟨hch, hsched, hrf, congrArg (· + 8) hdraws⟩

/-- An accept step writes every register its operation will read (R36, R101). -/
theorem commandEffect (h : s.sameLive t) {i : Instr} {f : State → State} (hf : commandEffect i = some f) :
    (f s).sameLive (f t) := by
  cases i <;> simp only [Machine.commandEffect, Option.some.injEq, reduceCtorEq] at hf <;> subst hf
  case nop | reserved6 | reserved7 => exact h.complete _
  case encode a d =>
    exact { h with
      op := rfl, wn := nofun, window := nofun, transmit := fun _ => ⟨rfl, rfl, rfl⟩
      localAddr := by simp, vote := nofun }
  case scan | recv =>
    exact { h with
      op := rfl, wn := fun _ => rfl, window := fun _ => windowAgrees_empty _ _, transmit := nofun
      localAddr := by simp, vote := nofun }
  case filter a =>
    exact { h with
      op := rfl, wn := fun _ => rfl, window := fun _ => windowAgrees_empty _ _, transmit := nofun
      localAddr := fun _ => rfl, vote := nofun }
  case combine a =>
    exact { h with
      op := rfl, wn := fun _ => rfl, window := fun _ => windowAgrees_empty _ _, transmit := nofun
      localAddr := fun _ => rfl, vote := fun _ => ⟨rfl, rfl, slotsAgree_empty _ _⟩ }

/-- TxStep reads the operands and the count of the ENCODE in progress (R142). -/
theorem txStep (h : s.sameLive t) (hop : s.op = .encode) : s.txStep.sameLive t.txStep := by
  obtain ⟨ha, hd, hn⟩ := h.transmit hop
  unfold State.txStep
  rw [← ha, ← hd, ← hn]
  split
  · exact (h.txPush _).complete _
  · exact { h.txPush _ with transmit := fun _ => ⟨ha, hd, rfl⟩ }

/-- A byte joins the live bytes of the window (R160). -/
theorem windowPush (h : s.sameLive t) (hop : s.op.receives = true) (b : Byte) :
    (s.windowPush b).sameLive (t.windowPush b) := by
  have hwindow := h.window hop
  unfold State.windowPush
  rw [← h.wn hop]
  split
  case isTrue hlt => exact { h with wn := fun _ => rfl, window := fun _ => hwindow.windowSet hlt b }
  case isFalse hfull =>
    rw [hwindow.eq_of_full (by bv_omega)]
    exact { h with wn := fun _ => rfl, window := fun _ => windowAgrees_refl _ _ }

/-- The vote reads the filled slots, and the draw counter for an empty window (R198, R200). -/
theorem completeVote (h : s.sameLive t) (hop : s.op = .combine) : s.completeVote.sameLive t.completeVote := by
  obtain ⟨-, hsv, hslots⟩ := h.vote hop
  obtain ⟨-, -, -, hdraws⟩ := h.environment
  unfold State.completeVote State.drawnByte
  rw [← hsv, ← hslots.resolve_eq, ← hdraws]
  split
  · exact h.complete _
  · exact (h.complete _).nextDraw

theorem recordSlot0 (h : s.sameLive t) (b : Byte) : (s.recordSlot0 b).sameLive (t.recordSlot0 b) :=
  { h with vote := fun hop =>
      have ⟨hcph, hsv, hslots⟩ := h.vote hop
      ⟨hcph, congrArg (fillSlot · 0) hsv, hslots.record0 b⟩ }

theorem recordSlot1 (h : s.sameLive t) (b : Byte) : (s.recordSlot1 b).sameLive (t.recordSlot1 b) :=
  { h with vote := fun hop =>
      have ⟨hcph, hsv, hslots⟩ := h.vote hop
      ⟨hcph, congrArg (fillSlot · 1) hsv, hslots.record1 b⟩ }

theorem recordSlot2 (h : s.sameLive t) (b : Byte) : (s.recordSlot2 b).sameLive (t.recordSlot2 b) :=
  { h with vote := fun hop =>
      have ⟨hcph, hsv, hslots⟩ := h.vote hop
      ⟨hcph, congrArg (fillSlot · 2) hsv, hslots.record2 b⟩ }

theorem setCph (h : s.sameLive t) (p : Phase) : (s.setCph p).sameLive (t.setCph p) :=
  { h with vote := fun hop => ⟨rfl, (h.vote hop).2⟩ }

/-- FilterAccept reads the local address (R179). -/
theorem filterAccept (h : s.sameLive t) (hop : s.op = .filter) (p : Packet) :
    (s.filterAccept p).sameLive (t.filterAccept p) := by
  unfold State.filterAccept
  rw [← h.localAddr (.inl hop)]
  split
  · exact h.complete _
  · exact h

/-- CombineAccept reads the local address, the parameter and the phase; so both states make the same tests (R199). -/
theorem combineAccept (h : s.sameLive t) (hop : s.op = .combine) (p : Packet) :
    (s.combineAccept p).sameLive (t.combineAccept p) := by
  obtain ⟨hcph, -, -⟩ := h.vote hop
  obtain ⟨-, -, hrf, -⟩ := h.environment
  unfold State.combineAccept
  rw [← h.localAddr (.inr hop), ← hrf, ← hcph]
  split_ifs
  · exact h
  · exact (h.recordSlot0 _).setCph _
  · exact (h.recordSlot1 _).setCph _
  · exact (h.recordSlot2 _).completeVote hop
  · exact h.completeVote hop

/-- FrameAccept reads no window byte but the frame's (R161). -/
theorem frameAccept (h : s.sameLive t) (f : Frame) : (s.frameAccept f).sameLive (t.frameAccept f) := by
  unfold State.frameAccept
  rw [← h.op]
  cases hop : s.op with
  | idle | encode => exact h
  | scan | recv => exact h.emptyWindow.complete _
  | filter => exact h.emptyWindow.filterAccept hop _
  | combine => exact h.emptyWindow.combineAccept hop _

/-- The receive step decodes a window only when all its bytes hold values (R160). -/
theorem rxStep (h : s.sameLive t) (hop : s.op.receives = true) (b : Byte) (rest : RxStream) :
    (s.rxStep b rest).sameLive (t.rxStep b rest) := by
  have hpush := (h.setRx rest).windowPush hop b
  have hop' : ((s.setRx rest).windowPush b).op.receives = true := by
    rw [State.windowPush_frame]
    exact hop
  unfold State.rxStep
  rw [← hpush.wn hop']
  by_cases hfull : ((s.setRx rest).windowPush b).wn = 4#3
  · rw [← (hpush.window hop').eq_of_full (by simp [hfull])]
    split
    · exact hpush.frameAccept _
    · exact hpush
  · simpa [hfull] using hpush

/-- Each kind of step of R35 is taken by both states or by neither. -/
theorem readyStep {s' : State} (h : s.sameLive t) (hstep : ReadyStep s s') : ∃ t', ReadyStep t t' ∧ s'.sameLive t' := by
  obtain ⟨hrx, -⟩ := h.streams
  obtain ⟨hcmds, -⟩ := h.ports
  obtain ⟨hchannel, -, -, -⟩ := h.environment
  cases hstep with
  | takeResponse ho hr => exact ⟨_, .takeResponse (h.op ▸ ho) (h.rspv ▸ hr), h.takeResponse hr⟩
  | quiescent ho hr hc => exact ⟨_, .quiescent (h.op ▸ ho) (h.rspv ▸ hr) (hcmds ▸ hc), h⟩
  | accept ho hr c rest f hc hf =>
    exact ⟨_, .accept (h.op ▸ ho) (h.rspv ▸ hr) c rest f (hcmds ▸ hc) hf, (h.setCmds rest).commandEffect hf⟩
  | transmit ho hch => exact ⟨_, .transmit (h.op ▸ ho) (hchannel ▸ hch), h.txStep ho⟩
  | blocked ho hx => exact ⟨_, .blocked (h.op ▸ ho) (hrx ▸ hx), h⟩
  | receive ho hch b rest hx =>
    exact ⟨_, .receive (h.op ▸ ho) (hchannel ▸ hch) b rest (hrx ▸ hx), h.rxStep ho b rest⟩

theorem readyThen (h : s.sameLive t) {turns : List Turn} (hs : s.readyThen turns) : t.readyThen turns := by
  obtain ⟨-, hsched, -⟩ := h.environment
  rwa [State.readyThen, ← hsched]

theorem machineStep {s' : State} (h : s.sameLive t) (hstep : MachineStep s s') :
    ∃ t', MachineStep t t' ∧ s'.sameLive t' := by
  obtain ⟨hchannel, hsched, -⟩ := h.environment
  cases hstep with
  | @ready turns _ hs hr =>
    obtain ⟨t', hr', hlive⟩ := (h.setSched turns).readyStep hr
    exact ⟨t', .ready (h.readyThen hs) hr', hlive⟩
  | @wait turns hs => exact ⟨_, .wait (hsched ▸ hs), h.setSched turns⟩
  | @reset turns hs => exact ⟨_, .reset (hsched ▸ hs), (h.setSched turns).hostReset⟩
  | @openChannel tx rx turns hs hc => exact ⟨_, .openChannel (hsched ▸ hs) (hchannel ▸ hc), h.openChannel tx rx turns⟩

/-- A refusal rests on the operation, the stream and the channel, which are live (R253). -/
theorem refuses {r : Refusal} (h : s.sameLive t) (hr : Refuses s r) : Refuses t r := by
  obtain ⟨hrx, -⟩ := h.streams
  obtain ⟨hchannel, hsched, -⟩ := h.environment
  cases hr with
  | transmit hs ho hch => exact .transmit (h.readyThen hs) (h.op ▸ ho) (hchannel ▸ hch)
  | receive hs ho hx hch => exact .receive (h.readyThen hs) (h.op ▸ ho) (hrx ▸ hx) (hchannel ▸ hch)
  | openChannel hs hc => exact .openChannel (hsched ▸ hs) (hchannel ▸ hc)

end State.sameLive

/-- Settles O39: every operation of the step reads live registers only, and writes the same values to them. -/
theorem staleRegistersAreNeverRead : Obligations.StaleRegistersAreNeverRead := by
  intro s t h
  refine ⟨fun s' hs => ?_, fun r hr => step_eq_refused_iff.2 (h.refuses (step_eq_refused_iff.1 hr))⟩
  obtain ⟨t', ht, hlive⟩ := h.machineStep (step_eq_next_iff.1 hs)
  exact ⟨t', step_eq_next_iff.2 ht, hlive⟩

/-! ## The command port and the schedule: a step with an operation in progress looks at neither (R68, R102) -/

/-- Other words offered and other turns to come, each a function of what was there. -/
def State.mapInputs (s : State) (onCmds : List CmdWord → List CmdWord) (onSched : List Turn → List Turn) : State :=
  { s with cmds := onCmds s.cmds, sched := onSched s.sched }

section
variable (s : State) (onCmds : List CmdWord → List CmdWord) (onSched : List Turn → List Turn)

@[simp] theorem State.mapInputs_wn : (s.mapInputs onCmds onSched).wn = s.wn := rfl
@[simp] theorem State.mapInputs_tcnt : (s.mapInputs onCmds onSched).tcnt = s.tcnt := rfl
@[simp] theorem State.mapInputs_cph : (s.mapInputs onCmds onSched).cph = s.cph := rfl
@[simp] theorem State.mapInputs_sv : (s.mapInputs onCmds onSched).sv = s.sv := rfl
@[simp] theorem State.mapInputs_sd : (s.mapInputs onCmds onSched).sd = s.sd := rfl
@[simp] theorem State.mapInputs_localAddr : (s.mapInputs onCmds onSched).localAddr = s.localAddr := rfl
@[simp] theorem State.mapInputs_op : (s.mapInputs onCmds onSched).op = s.op := rfl
@[simp] theorem State.mapInputs_w : (s.mapInputs onCmds onSched).w = s.w := rfl
@[simp] theorem State.mapInputs_refetchFiltered :
    (s.mapInputs onCmds onSched).refetchFiltered = s.refetchFiltered := rfl

theorem State.setSched_eq_mapInputs (turns : List Turn) : s.setSched turns = s.mapInputs id (fun _ => turns) := rfl

/-! Each operation of a step neither reads nor writes what `mapInputs` changes. -/

theorem State.windowPush_mapInputs (b : Byte) :
    (s.mapInputs onCmds onSched).windowPush b = (s.windowPush b).mapInputs onCmds onSched := by
  unfold State.windowPush
  rw [mapInputs_wn]
  split_ifs <;> rfl

theorem State.txStep_mapInputs : (s.mapInputs onCmds onSched).txStep = s.txStep.mapInputs onCmds onSched := by
  unfold State.txStep
  rw [mapInputs_tcnt]
  split_ifs <;> rfl

theorem State.filterAccept_mapInputs (p : Packet) :
    (s.mapInputs onCmds onSched).filterAccept p = (s.filterAccept p).mapInputs onCmds onSched := by
  unfold State.filterAccept
  rw [mapInputs_localAddr]
  split_ifs <;> rfl

theorem State.completeVote_mapInputs :
    (s.mapInputs onCmds onSched).completeVote = s.completeVote.mapInputs onCmds onSched := by
  unfold State.completeVote
  rw [mapInputs_sv, mapInputs_sd]
  cases resolve s.sv s.sd <;> rfl

theorem State.combineAccept_mapInputs (p : Packet) :
    (s.mapInputs onCmds onSched).combineAccept p = (s.combineAccept p).mapInputs onCmds onSched := by
  unfold State.combineAccept
  rw [mapInputs_localAddr, mapInputs_refetchFiltered, mapInputs_cph]
  split_ifs
  · rfl
  · rfl
  · rfl
  · exact (s.recordSlot2 p.data).completeVote_mapInputs onCmds onSched
  · exact s.completeVote_mapInputs onCmds onSched

theorem State.frameAccept_mapInputs (f : Frame) :
    (s.mapInputs onCmds onSched).frameAccept f = (s.frameAccept f).mapInputs onCmds onSched := by
  unfold State.frameAccept
  rw [mapInputs_op]
  cases s.op with
  | idle | encode | scan | recv => rfl
  | filter => exact s.emptyWindow.filterAccept_mapInputs onCmds onSched f.packet
  | combine => exact s.emptyWindow.combineAccept_mapInputs onCmds onSched f.packet

theorem State.rxStep_mapInputs (b : Byte) (rest : RxStream) :
    (s.mapInputs onCmds onSched).rxStep b rest = (s.rxStep b rest).mapInputs onCmds onSched := by
  have hpush : ((s.mapInputs onCmds onSched).setRx rest).windowPush b =
      ((s.setRx rest).windowPush b).mapInputs onCmds onSched :=
    (s.setRx rest).windowPush_mapInputs onCmds onSched b
  unfold State.rxStep
  rw [hpush, mapInputs_wn, mapInputs_w]
  split
  · exact State.frameAccept_mapInputs ..
  · rfl

theorem commandEffect_mapInputs {i : Instr} {f : State → State} (hf : commandEffect i = some f) :
    f (s.mapInputs onCmds onSched) = (f s).mapInputs onCmds onSched := by
  cases i <;> simp only [commandEffect, Option.some.injEq, reduceCtorEq] at hf <;> subst hf <;> rfl

end

/-- With an operation in progress a ready engine does the same whatever is offered and scheduled (R102). -/
theorem ReadyStep.mapInputs {s t : State} (h : ReadyStep s t) (hop : s.op ≠ .idle)
    (onCmds : List CmdWord → List CmdWord) (onSched : List Turn → List Turn) :
    ReadyStep (s.mapInputs onCmds onSched) (t.mapInputs onCmds onSched) := by
  cases h with
  | takeResponse ho | quiescent ho | accept ho => exact absurd ho hop
  | transmit ho hch =>
    rw [← s.txStep_mapInputs]
    exact .transmit ho hch
  | blocked ho hx => exact .blocked ho hx
  | receive ho hch b rest hx =>
    rw [← s.rxStep_mapInputs]
    exact .receive (s := s.mapInputs onCmds onSched) ho hch b rest hx

/-- What a ready engine does is the same whatever is scheduled behind it (log 1). -/
theorem ReadyStep.setSched {s t : State} (h : ReadyStep s t) (turns : List Turn) :
    ReadyStep (s.setSched turns) (t.setSched turns) := by
  by_cases hop : s.op = .idle
  case neg => exact h.mapInputs hop id fun _ => turns
  cases h with
  | takeResponse ho hr => exact .takeResponse ho hr
  | quiescent ho hr hc => exact .quiescent ho hr hc
  | accept ho hr c rest f hc hf =>
    rw [State.setSched_eq_mapInputs (f _), ← commandEffect_mapInputs _ _ _ hf]
    exact .accept (s := s.setSched turns) ho hr c rest f hc hf
  | transmit ho => simp [hop] at ho
  | blocked ho | receive ho => simp [hop, Op.receives] at ho

/-- A ready engine's step is one (R35). -/
theorem ReadyStep.unique {s t u : State} (ht : ReadyStep s t) (hu : ReadyStep s u) : t = u :=
  Host.Outcome.next.inj (ht.outcome_eq.symm.trans hu.outcome_eq)

/-- No step of a ready engine writes the schedule: with its own schedule put back the step is the same one. -/
theorem ReadyStep.sched_eq {s t : State} (h : ReadyStep s t) : t.sched = s.sched := by
  have hsame : t = t.setSched s.sched := h.unique (h.setSched s.sched)
  rw [hsame, State.setSched_sched]

/-! ### An operation in progress keeps its operands (R68) -/

/-- With an operation in progress the command port is left as it is (R102). -/
theorem ReadyStep.cmds_eq {s t : State} (h : ReadyStep s t) (hop : s.op ≠ .idle) : t.cmds = s.cmds := by
  have hsame : t = t.setCmds s.cmds := h.unique (h.mapInputs hop (fun _ => s.cmds) id)
  rw [hsame, State.setCmds_cmds]

/-- The operands are written by accept steps only (R24, R27, R101). -/
theorem ReadyStep.operands_eq {s t : State} (h : ReadyStep s t) (hop : s.op ≠ .idle) :
    t.taddr = s.taddr ∧ t.tdata = s.tdata ∧ t.localAddr = s.localAddr := by
  cases h with
  | takeResponse ho | quiescent ho | accept ho => exact absurd ho hop
  | transmit =>
    rcases s.txStep_cases with ⟨-, he⟩ | ⟨-, he⟩ <;> rw [he] <;> exact ⟨rfl, rfl, rfl⟩
  | blocked => exact ⟨rfl, rfl, rfl⟩
  | receive _ _ b rest =>
    rw [State.rxStep_frame]
    exact ⟨rfl, rfl, rfl⟩

/-- Settles O37, by the cases of the step. -/
theorem operandsStayLatched : Obligations.OperandsStayLatched := by
  intro s t h hop
  cases step_eq_next_iff.1 h with
  | @ready turns _ hs hr =>
    refine ⟨fun _ => hr.operands_eq hop, hr.cmds_eq hop, fun words => ?_⟩
    exact step_eq_next_iff.2 (.ready hs (hr.mapInputs hop (fun _ => words) id))
  | wait hs =>
    exact ⟨fun _ => ⟨rfl, rfl, rfl⟩, rfl, fun words => step_eq_next_iff.2 (.wait (s := s.setCmds words) hs)⟩
  | reset hs =>
    exact ⟨fun hno => absurd hs (hno _), rfl, fun words => step_eq_next_iff.2 (.reset (s := s.setCmds words) hs)⟩
  | openChannel hs hc =>
    refine ⟨fun _ => ⟨rfl, rfl, rfl⟩, rfl, fun words => ?_⟩
    exact step_eq_next_iff.2 (.openChannel (s := s.setCmds words) hs hc)

/-! ### Ready and wait turns only delay (R263) -/

/-- A step without a schedule is one of a ready engine. -/
theorem ReadyStep.of_step {s t : State} (hs : s.sched = []) (h : step s = .next t) : ReadyStep s t := by
  rcases step_cases h with ⟨-, hr⟩ | ⟨_, hs', -⟩ | ⟨_, hs', -⟩ | ⟨_, hs', -⟩ | ⟨_, _, _, hs', -⟩
  · exact hr
  all_goals simp [hs] at hs'

theorem runSteps_of_step {s t : State} (h : step s = .next t) (n : Nat) : runSteps (n + 1) s = runSteps n t := by
  simp only [runSteps, h]

theorem step_of_runSteps {s t : State} {n : Nat} (h : runSteps (n + 1) s = some t) :
    ∃ u, step s = .next u ∧ runSteps n u = some t := by
  unfold runSteps at h
  split at h
  case h_1 u hu => exact ⟨u, hu, h⟩
  all_goals cases h

/-- Settles O51, by induction on the turns: a ready turn is the next step of the run without waiting, a wait turn is
none. -/
theorem schedulesOnlyDelay : Obligations.SchedulesOnlyDelay := by
  intro s t turns hturns hs hrun
  replace hrun : runSteps (turns.count .ready) (s.setSched []) = some t := hrun
  induction turns generalizing s with
  | nil => rwa [State.setSched_of_empty hs] at hrun
  | cons turn turns ih =>
    obtain ⟨hturn, hrest⟩ := List.forall_mem_cons.1 hturns
    rcases hturn with rfl | rfl
    · rw [List.count_cons_self] at hrun
      obtain ⟨u, hu, hrun⟩ := step_of_runSteps hrun
      have hready := ReadyStep.of_step rfl hu
      have hstep : step s = .next (u.setSched turns) := step_eq_next_iff.2 (.ready (.inr hs) (hready.setSched turns))
      rw [List.length_cons, runSteps_of_step hstep]
      refine ih _ hrest rfl ?_
      rwa [← State.setSched_of_empty hready.sched_eq] at hrun
    · rw [List.count_cons_of_ne (by decide)] at hrun
      rw [List.length_cons, runSteps_of_step (step_eq_next_iff.2 (.wait hs))]
      exact ih _ hrest rfl hrun

end Sys2Proof.Machine

namespace Sys2Proof.Machine

/-! ## What a step does to the two streams (R52 to R54, R59) -/

/-- What the step from `s` to `t` does to the streams, with the operation that reaches the one it moves (R54). -/
inductive MovesByte (s t : State) : Prop where
  | none (hrx : t.rx = s.rx) (htx : t.tx = s.tx)
  | pull (ho : s.op.receives = true) (b : Byte) (hrx : s.rx.pull = some (b, t.rx)) (htx : t.tx = s.tx)
  | push (ho : s.op = .encode) (b : Byte) (hrx : t.rx = s.rx) (htx : t.tx = s.tx ++ [b])

/-- No accept step reaches a stream (R101). -/
theorem commandEffect_streams {i : Instr} {f : State → State} (hf : commandEffect i = some f) (s : State) :
    (f s).rx = s.rx ∧ (f s).tx = s.tx := by
  cases i <;> simp only [commandEffect, Option.some.injEq, reduceCtorEq] at hf <;> subst hf <;> exact ⟨rfl, rfl⟩

/-- TxStep pushes the byte `TCNT` names and leaves the receive stream (R142). -/
theorem State.txStep_streams (s : State) :
    s.txStep.rx = s.rx ∧ s.txStep.tx = s.tx ++ [encByte s.taddr s.tdata s.tcnt] := by
  rcases s.txStep_cases with ⟨-, h⟩ | ⟨-, h⟩ <;> rw [h] <;> exact ⟨rfl, rfl⟩

/-- Of the steps of a ready engine only TxStep and RxStep reach a stream (R35, R54). -/
theorem ReadyStep.movesByte {s t : State} (h : ReadyStep s t) : MovesByte s t := by
  cases h with
  | takeResponse => exact .none rfl rfl
  | quiescent => exact .none rfl rfl
  | accept _ _ _ rest _ _ hf =>
    obtain ⟨hrx, htx⟩ := commandEffect_streams hf (s.setCmds rest)
    exact .none hrx htx
  | transmit ho => exact .push ho _ s.txStep_streams.1 s.txStep_streams.2
  | blocked => exact .none rfl rfl
  | receive ho _ b rest hx => exact .pull ho b (by rw [State.rxStep_rx, hx]) (s.rxStep_tx b rest)

/-- The turn a step takes reaches neither stream. -/
theorem MovesByte.of_setSched {s t : State} {turns : List Turn} (h : MovesByte (s.setSched turns) t) :
    MovesByte s t := by
  cases h with
  | none hrx htx => exact .none hrx htx
  | pull ho b hrx htx => exact .pull ho b hrx htx
  | push ho b hrx htx => exact .push ho b hrx htx

/-- Every step moves at most one byte, by the operation whose stream it is (R54, R59). -/
theorem movesByte_of_step {s t : State} (h : step s = .next t) : MovesByte s t := by
  cases step_eq_next_iff.1 h with
  | ready _ hr => exact hr.movesByte.of_setSched
  | wait => exact .none rfl rfl
  | reset => exact .none rfl rfl
  | openChannel => exact .none rfl rfl

/-- A reset turn takes the Reset step in any state (R224, R251). -/
theorem step_of_reset {s : State} {turns : List Turn} (hs : s.sched = .reset :: turns) :
    step s = .next (s.setSched turns).hostReset :=
  step_eq_next_iff.2 (.reset hs)

/-- Settles O35: the three kinds of move, without the operation that makes them. -/
theorem stepMovesAtMostOneByte : Obligations.StepMovesAtMostOneByte := by
  intro s t h
  cases movesByte_of_step h with
  | none hrx htx => exact .inl ⟨hrx, htx⟩
  | pull _ b hrx htx => exact .inr (.inl ⟨b, hrx, htx⟩)
  | push _ b hrx htx => exact .inr (.inr ⟨b, hrx, htx⟩)

/-- Settles O36: a stream that changed was moved by the operation it belongs to; a reset moves none. -/
theorem operationsReachTheirStream : Obligations.OperationsReachTheirStream := by
  intro s t h
  refine ⟨fun hne => ?_, fun hne => ?_, fun turns hs => ?_⟩
  · cases movesByte_of_step h with
    | none _ htx => exact absurd htx hne
    | pull _ _ _ htx => exact absurd htx hne
    | push ho => exact ho
  · cases movesByte_of_step h with
    | none hrx => exact absurd hrx hne
    | pull ho => exact ho
    | push _ _ hrx => exact absurd hrx hne
  · cases (step_of_reset hs).symm.trans h
    exact ⟨rfl, rfl⟩

/-! ## Stream functions on longer streams (R51, R157, R178, R193) -/

/-- A value of `g` on some bytes is its value on them followed by any others, which it leaves. -/
def NeedsNoLaterByte {α : Type} (g : List Byte → Option (α × List Byte)) : Prop :=
  ∀ {bytes rest : List Byte} {r : α} (later : List Byte),
    g bytes = some (r, rest) → g (bytes ++ later) = some (r, rest ++ later)

/-- A scan decides each window by its four bytes (R157). -/
theorem streamScan_needsNoLaterByte : NeedsNoLaterByte streamScan := by
  intro bytes rest f later h
  induction bytes using streamScan.induct with
  | case1 b0 b1 b2 b3 tl hvalid =>
    rw [streamScan, if_pos hvalid] at h
    cases h
    exact streamScan_of_valid hvalid (rest ++ later)
  | case2 b0 b1 b2 b3 tl hvalid ih =>
    rw [streamScan, if_neg hvalid] at h
    exact (if_neg hvalid).trans (ih h)
  | case3 bytes hshort => simp [streamScan] at h

theorem streamRecv_needsNoLaterByte : NeedsNoLaterByte streamRecv := by
  intro bytes rest p later h
  obtain ⟨f, hf, hp⟩ := streamRecv_eq_some_iff.1 h
  exact streamRecv_eq_some_iff.2 ⟨f, streamScan_needsNoLaterByte later hf, hp⟩

/-- The bound on the packets pulled may grow with the stream. -/
theorem streamFilterWithin_append {a : Addr} {m n : Nat} {bytes rest : List Byte} {p : Packet} (later : List Byte)
    (hmn : m ≤ n) (h : streamFilterWithin m a bytes = some (p, rest)) :
    streamFilterWithin n a (bytes ++ later) = some (p, rest ++ later) := by
  induction m generalizing n bytes with
  | zero => cases h
  | succ m ih =>
    obtain ⟨n, rfl⟩ := Nat.exists_eq_add_of_lt hmn
    unfold streamFilterWithin at h
    split at h
    case h_2 => cases h
    case h_1 q tl hrecv =>
      rw [streamFilterWithin, streamRecv_needsNoLaterByte later hrecv]
      by_cases ha : q.address = a
      · rw [if_pos ha] at h
        cases h
        exact if_pos ha
      · rw [if_neg ha] at h
        exact (if_neg ha).trans (ih (Nat.le_add_right m n) h)

theorem streamFilter_needsNoLaterByte (a : Addr) : NeedsNoLaterByte (streamFilter a) := by
  intro bytes rest p later h
  exact streamFilterWithin_append later (by simp) h

theorem streamFetch2_needsNoLaterByte (rf : Bool) (a : Addr) : NeedsNoLaterByte (streamFetch2 rf a) := by
  cases rf with
  | true => exact streamFilter_needsNoLaterByte a
  | false => exact streamRecv_needsNoLaterByte

/-- The vote window with further bytes behind those left of its stream. -/
def VoteRun.before (v : VoteRun) (later : List Byte) : VoteRun := { v with rest := v.rest ++ later }

@[simp] theorem VoteRun.before_cur (v : VoteRun) (later : List Byte) : (v.before later).cur = v.cur := rfl

/-- The third test fetches nothing (R197). -/
theorem voteTest2_before (a : Addr) (v : VoteRun) (later : List Byte) :
    voteTest2 a (v.before later) = (voteTest2 a v).before later := by
  unfold voteTest2
  rw [VoteRun.before_cur]
  split_ifs <;> rfl

theorem voteTests12_before {rf : Bool} {a : Addr} {v u : VoteRun} (later : List Byte)
    (h : voteTests12 rf a v = some u) : voteTests12 rf a (v.before later) = some (u.before later) := by
  by_cases hq : v.cur.sequence = 1#3 ∧ v.cur.address = a
  · rw [voteTests12_of_seq1 hq] at h
    obtain ⟨⟨p, rest⟩, hfetch, hu⟩ := Option.bind_eq_some_iff.1 h
    cases hu
    rw [voteTests12_of_seq1 (v := v.before later) hq, VoteRun.before,
      streamFetch2_needsNoLaterByte rf a later hfetch, Option.bind_some, ← voteTest2_before]
    rfl
  · rw [voteTests12_of_not_seq1 hq] at h
    cases h
    rw [voteTests12_of_not_seq1 (v := v.before later) hq, voteTest2_before]

theorem voteTests_before {rf : Bool} {a : Addr} {v u : VoteRun} (later : List Byte)
    (h : voteTests rf a v = some u) : voteTests rf a (v.before later) = some (u.before later) := by
  by_cases hq : v.cur.sequence = 0#3
  · rw [voteTests_of_seq0 hq] at h
    obtain ⟨⟨p, rest⟩, hfetch, hu⟩ := Option.bind_eq_some_iff.1 h
    rw [voteTests_of_seq0 (v := v.before later) hq, VoteRun.before,
      streamFetch2_needsNoLaterByte rf a later hfetch, Option.bind_some]
    exact voteTests12_before later hu
  · rw [voteTests_of_not_seq0 hq] at h
    rw [voteTests_of_not_seq0 (v := v.before later) hq]
    exact voteTests12_before later h

theorem streamCombine_append {rf : Bool} {a : Addr} {sd : SlotData} {bytes : List Byte} {v : VoteRun}
    (later : List Byte) (h : streamCombine rf a sd bytes = some v) :
    streamCombine rf a sd (bytes ++ later) = some (v.before later) := by
  rw [streamCombine_eq] at h
  obtain ⟨⟨p, rest⟩, hfetch, hv⟩ := Option.bind_eq_some_iff.1 h
  rw [streamCombine_eq, streamFilter_needsNoLaterByte a later hfetch, Option.bind_some]
  exact voteTests_before later hv

/-- Settles O52: SCAN by induction on the bytes, the others through the packets they fetch. -/
theorem resultsNeedNoLaterByte : Obligations.ResultsNeedNoLaterByte := by
  intro bytes later
  exact ⟨fun _ _ => streamScan_needsNoLaterByte later, fun _ _ => streamRecv_needsNoLaterByte later,
    fun a _ _ => streamFilter_needsNoLaterByte a later, fun _ _ _ _ => streamCombine_append later⟩

/-! ## The receive step that completes no frame (R156, R160) -/

theorem State.windowPush_of_zero {s : State} (hwn : s.wn = 0#3) (b : Byte) :
    s.windowPush b = s.setWindow { s.w with b0 := b } 1#3 := by
  simp [State.windowPush, hwn, windowSet]

theorem State.windowPush_of_one {s : State} (hwn : s.wn = 1#3) (b : Byte) :
    s.windowPush b = s.setWindow { s.w with b1 := b } 2#3 := by
  simp [State.windowPush, hwn, windowSet]

theorem State.windowPush_of_two {s : State} (hwn : s.wn = 2#3) (b : Byte) :
    s.windowPush b = s.setWindow { s.w with b2 := b } 3#3 := by
  simp [State.windowPush, hwn, windowSet]

/-- A receive step whose window is not full, or is full and not valid, is its window push (R160). -/
theorem State.rxStep_of_no_frame {s : State} {b : Byte} {rest : RxStream} {w : Frame} {n : BitVec 3}
    (hpush : (s.setRx rest).windowPush b = (s.setRx rest).setWindow w n) (hno : n = 4#3 → w.valid = false) :
    s.rxStep b rest = (s.setRx rest).setWindow w n := by
  rw [State.rxStep, hpush, State.setWindow_wn, State.setWindow_w]
  exact if_neg fun ⟨hfull, hvalid⟩ => by simp [hno hfull] at hvalid

/-- A receive step that completes no frame pulls the byte and pushes it into the window, nothing else (R160). -/
theorem step_receive_of_no_frame {s : State} {turns : List Turn} {b : Byte} {rest : RxStream} {w : Frame}
    {n : BitVec 3} (hready : s.readyThen turns) (ho : s.op.receives = true) (hx : s.rx.pull = some (b, rest))
    (hch : s.channel.receiveRefusal = none)
    (hpush : ((s.setSched turns).setRx rest).windowPush b = ((s.setSched turns).setRx rest).setWindow w n)
    (hno : n = 4#3 → w.valid = false) : step s = .next (((s.setSched turns).setRx rest).setWindow w n) := by
  rw [step_receive_of_readyThen hready ho hx hch, State.rxStep_of_no_frame hpush hno]

/-- Settles O26: for each count of the window, what the push does to it; only a full window could be a frame. -/
theorem receiveStepFillsTheWindow : Obligations.ReceiveStepFillsTheWindow := by
  intro s b rest tx turns hop hready hch hx
  have hrecv : s.channel.receiveRefusal = none := by rw [hch]; rfl
  have hstep {w : Frame} {n : BitVec 3} := step_receive_of_no_frame (w := w) (n := n) hready hop hx hrecv
  refine ⟨fun hwn => ?zero, fun hwn => ?one, fun hwn => ?two, fun hwn hno => ?three, fun hwn hno => ?four⟩
  case zero => exact hstep (State.windowPush_of_zero (by exact hwn) b) (by simp)
  case one => exact hstep (State.windowPush_of_one (by exact hwn) b) (by simp)
  case two => exact hstep (State.windowPush_of_two (by exact hwn) b) (by simp)
  case three => exact hstep (State.windowPush_of_three (by exact hwn) b) fun _ => hno
  case four =>
    rw [hstep (State.windowPush_of_four (by exact hwn) b) fun _ => hno, ← hwn]
    rfl

end Sys2Proof.Machine

namespace Sys2Proof

/-! ## Encodings: what is written is read back (R76, R84, R86) -/

/-! ### Command words -/

/-- The command row of an opcode (R76), as `Instr.ofSeq` is the FRAME row of a sequence value; an operand the row does
not have is dropped. -/
def Instr.ofOpcode (o : BitVec 3) (a : Addr) (d : Byte) : Instr :=
  match o.toFin with
  | 0 => .nop
  | 1 => .encode a d
  | 2 => .scan
  | 3 => .recv
  | 4 => .filter a
  | 5 => .combine a
  | 6 => .reserved6
  | 7 => .reserved7

theorem decodeCommand_eq_ofOpcode (c : CmdWord) :
    decodeCommand c = Instr.ofOpcode (CmdWord.opc c) (CmdWord.a c) (CmdWord.d c) := rfl

theorem decodeCommand_of_opc {c : CmdWord} {o : BitVec 3} (ho : CmdWord.opc c = o) :
    decodeCommand c = Instr.ofOpcode o (CmdWord.a c) (CmdWord.d c) := by
  rw [decodeCommand_eq_ofOpcode, ho]

/-- A command word is decoded by the three fields it was made from. -/
theorem decodeCommand_commandWord (o : BitVec 3) (a : Addr) (d : Byte) :
    decodeCommand (commandWord o a d) = Instr.ofOpcode o a d := by
  rw [decodeCommand_of_opc (commandWord_opc o a d), commandWord_a, commandWord_d]

theorem decode_command_commandWord (o : BitVec 3) (a : Addr) (d : Byte) :
    decode (.command (commandWord o a d)) = .ok (Instr.ofOpcode o a d) :=
  congrArg Except.ok (decodeCommand_commandWord o a d)

/-- Settles O4: the row of each opcode, its operands being the fields of the word. -/
theorem commandWordFields : Obligations.CommandWordFields := by
  intro c
  refine ⟨?nop, ?encode, ?scan, ?recv, ?filter, ?combine, ?reserved6, ?reserved7⟩
  all_goals exact decodeCommand_of_opc

/-! ### Frames -/

theorem encode_ofSeq (q : Seq) (a : Addr) (d c : Byte) :
    encode (Instr.ofSeq q a d c) = .frame (wireFrame a q d c) := by
  rcases ofSeq_cases q a d c with ⟨hq, h⟩ | ⟨hq, h⟩ | ⟨hq, h⟩ | ⟨hq, h⟩ | ⟨hq, h⟩ | ⟨hq, h⟩ | ⟨hq, h⟩ | ⟨hq, h⟩ <;>
    rw [h, hq] <;> rfl

theorem wellFormed_ofSeq (q : Seq) (a : Addr) (d c : Byte) :
    (Instr.ofSeq q a d c).wellFormed = checksumFits a q d c := by
  rcases ofSeq_cases q a d c with ⟨hq, h⟩ | ⟨hq, h⟩ | ⟨hq, h⟩ | ⟨hq, h⟩ | ⟨hq, h⟩ | ⟨hq, h⟩ | ⟨hq, h⟩ | ⟨hq, h⟩ <;>
    rw [h, hq] <;> rfl

/-- A FRAME row's constraint is `Valid` of its four bytes (R86, R120). -/
theorem valid_wireFrame (a : Addr) (q : Seq) (d c : Byte) : (wireFrame a q d c).valid = checksumFits a q d c := by
  simp [Frame.valid, checksumFits, addrSeq_eq_append]

/-- The four bytes of a FRAME row whose checksum fits decode to that row. -/
theorem decode_frame_wireFrame {a : Addr} {q : Seq} {d c : Byte} (h : checksumFits a q d c = true) :
    decode (.frame (wireFrame a q d c)) = .ok (Instr.ofSeq q a d c) := by
  have hvalid : (wireFrame a q d c).valid = true := (valid_wireFrame a q d c).trans h
  simpa [decode] using Machine.decodeFrame_of_valid hvalid

/-- What four bytes decode to is the FRAME row of their own fields, and they are valid. -/
theorem eq_ofSeq_of_decodeFrame {f : Frame} {i : Instr} (h : decodeFrame f = .ok i) :
    f.valid = true ∧ i = Instr.ofSeq f.packet.sequence f.packet.address f.packet.data f.b3 := by
  obtain ⟨hvalid, -⟩ := Machine.exec_of_decodeFrame h Machine.State.reset
  exact ⟨hvalid, Except.ok.inj (h.symm.trans (Machine.decodeFrame_of_valid hvalid))⟩

/-- Settles O1: each row is written with its opcode or its sequence value, and every field reads back. -/
theorem decodeEncodeRoundTrip : Obligations.DecodeEncodeRoundTrip := by
  intro i h
  cases i with
  | frameSeq0 a d c => exact decode_frame_wireFrame (q := 0#3) h
  | frameSeq1 a d c => exact decode_frame_wireFrame (q := 1#3) h
  | frameSeq2 a d c => exact decode_frame_wireFrame (q := 2#3) h
  | frameSeq3 a d c => exact decode_frame_wireFrame (q := 3#3) h
  | frameSeq4 a d c => exact decode_frame_wireFrame (q := 4#3) h
  | frameSeq5 a d c => exact decode_frame_wireFrame (q := 5#3) h
  | frameSeq6 a d c => exact decode_frame_wireFrame (q := 6#3) h
  | frameSeq7 a d c => exact decode_frame_wireFrame (q := 7#3) h
  | nop => exact decode_command_commandWord 0#3 0#5 0#8
  | encode a d => exact decode_command_commandWord 1#3 a d
  | scan => exact decode_command_commandWord 2#3 0#5 0#8
  | recv => exact decode_command_commandWord 3#3 0#5 0#8
  | filter a => exact decode_command_commandWord 4#3 a 0#8
  | combine a => exact decode_command_commandWord 5#3 a 0#8
  | reserved6 => exact decode_command_commandWord 6#3 0#5 0#8
  | reserved7 => exact decode_command_commandWord 7#3 0#5 0#8

/-- Settles O2: the instruction is the FRAME row of the bytes' own fields, which are all of the bytes. -/
theorem frameDecodingLosesNoBit : Obligations.FrameDecodingLosesNoBit := by
  intro f i h
  obtain ⟨hvalid, rfl⟩ := eq_ofSeq_of_decodeFrame h
  have hframe := wireFrame_of_valid f hvalid
  constructor
  · rw [wellFormed_ofSeq, ← valid_wireFrame, hframe, hvalid]
  · rw [encode_ofSeq, hframe]

/-- Settles O5: each word is decoded by evaluation. -/
theorem specWordsDecode : Obligations.SpecWordsDecode :=
  ⟨rfl, rfl, rfl, rfl, rfl, rfl, rfl⟩

/-! ### The assembler (R84, R147) -/

theorem assemble_eq_none_iff (p : Notation) : assemble p = none ↔ p.wellFormed = false := by
  simp [assemble]

theorem toInstr_eq_none_iff (p : Notation) : p.toInstr = none ↔ p.wellFormed = false := by
  simp [Notation.toInstr]

/-- Settles O6: a line is refused, by the assembler and as an instruction, exactly when it is not well formed. -/
theorem notationRefusesOutOfRange : Obligations.NotationRefusesOutOfRange := by
  refine ⟨fun a d => ?encode, fun a => ?filter, fun a => ?combine, ⟨_, rfl⟩, ⟨_, rfl⟩, ⟨_, rfl⟩, fun p => ?names⟩
  case encode =>
    simp only [assemble_eq_none_iff, Notation.wellFormed, Bool.and_eq_false_iff, decide_eq_false_iff_not]
    omega
  case filter | combine =>
    simp only [assemble_eq_none_iff, Notation.wellFormed, decide_eq_false_iff_not]
    omega
  case names => rw [assemble_eq_none_iff, toInstr_eq_none_iff]

/-- The number R84 computes for a command word is its three fields side by side. -/
theorem commandWord_ofNat {a d : Nat} (ha : a < 32) (hd : d < 256) (o : BitVec 3) :
    commandWord o (BitVec.ofNat 5 a) (BitVec.ofNat 8 d) = BitVec.ofNat 16 ((o.toNat <<< 13) + (a <<< 8) + d) := by
  apply BitVec.eq_of_toNat_eq
  have ha' : (BitVec.ofNat 5 a).toNat = a := Nat.mod_eq_of_lt ha
  have hd' : (BitVec.ofNat 8 d).toNat = d := Nat.mod_eq_of_lt hd
  rw [commandWord, BitVec.toNat_append, BitVec.toNat_append, ha', hd', ← Nat.shiftLeft_add_eq_or_of_lt (i := 5) ha,
    ← Nat.shiftLeft_add_eq_or_of_lt (i := 8) hd, BitVec.toNat_ofNat]
  have ho := o.isLt
  simp only [Nat.shiftLeft_eq]
  omega

theorem commandWord_ofNat_address {a : Nat} (ha : a < 32) (o : BitVec 3) :
    commandWord o (BitVec.ofNat 5 a) 0#8 = BitVec.ofNat 16 ((o.toNat <<< 13) + (a <<< 8)) :=
  commandWord_ofNat ha (d := 0) (by decide) o

/-- A line with its operands in range names a well-formed command row, and its word is the encoding of that row. -/
theorem assemble_eq_encode {p : Notation} (h : p.wellFormed = true) :
    ∃ i c, p.toInstr = some i ∧ i.wellFormed = true ∧ encode i = .command c ∧ assemble p = some c := by
  cases p with
  | nop => exact ⟨.nop, _, rfl, rfl, rfl, rfl⟩
  | encode a d =>
    obtain ⟨ha, hd⟩ : a < 32 ∧ d < 256 := by simpa [Notation.wellFormed] using h
    have hword := commandWord_ofNat ha hd 1#3
    exact ⟨.encode (.ofNat 5 a) (.ofNat 8 d), _, if_pos h, rfl, rfl, (if_pos h).trans (congrArg some hword.symm)⟩
  | scan => exact ⟨.scan, _, rfl, rfl, rfl, rfl⟩
  | recv => exact ⟨.recv, _, rfl, rfl, rfl, rfl⟩
  | filter a =>
    have hword := commandWord_ofNat_address (of_decide_eq_true h) 4#3
    exact ⟨.filter (.ofNat 5 a), _, if_pos h, rfl, rfl, (if_pos h).trans (congrArg some hword.symm)⟩
  | combine a =>
    have hword := commandWord_ofNat_address (of_decide_eq_true h) 5#3
    exact ⟨.combine (.ofNat 5 a), _, if_pos h, rfl, rfl, (if_pos h).trans (congrArg some hword.symm)⟩

/-- Settles O7: the word is the encoding of the instruction, and so decodes to it by the round trip (O1). -/
theorem notationAssemblesToItsInstruction : Obligations.NotationAssemblesToItsInstruction := by
  intro p c hc
  have hp : p.wellFormed = true := by
    by_contra hbad
    simp [(assemble_eq_none_iff p).2 (by simpa using hbad)] at hc
  obtain ⟨i, c', hi, hwf, hcode, hc'⟩ := assemble_eq_encode hp
  obtain rfl : c' = c := Option.some.inj (hc'.symm.trans hc)
  have hround : decode (.command c') = .ok i := hcode ▸ decodeEncodeRoundTrip i hwf
  exact ⟨i, hi, Except.ok.inj hround, hcode⟩

end Sys2Proof

namespace Sys2Proof.Machine

/-! ## What each FRAME row does to a SCAN, a RECV and a COMBINE (R161, R199) -/

theorem eq_ofSeq_of_mem_frameRows {a : Addr} {d c : Byte} {q : Seq} {i : Instr} (h : (q, i) ∈ frameRows a d c) :
    i = Instr.ofSeq q a d c := by
  simp only [frameRows, List.mem_cons, List.not_mem_nil, or_false, Prod.mk.injEq] at h
  rcases h with ⟨rfl, rfl⟩ | ⟨rfl, rfl⟩ | ⟨rfl, rfl⟩ | ⟨rfl, rfl⟩ | ⟨rfl, rfl⟩ | ⟨rfl, rfl⟩ | ⟨rfl, rfl⟩ | ⟨rfl, rfl⟩ <;>
    rfl

/-- Each of the eight FRAME rows runs FrameAccept on its four bytes (R161). -/
theorem exec_of_mem_frameRows {a : Addr} {d c : Byte} {q : Seq} {i : Instr} (h : (q, i) ∈ frameRows a d c)
    (s : State) : exec i s = .next (s.frameAccept (wireFrame a q d c)) := by
  rw [eq_ofSeq_of_mem_frameRows h, exec_ofSeq]

/-- SCAN's response to a FRAME row: its four bytes in wire order (R57, R77). -/
theorem packFrame_wireFrame (a : Addr) (q : Seq) (d c : Byte) :
    packFrame (wireFrame a q d c) = ((0xAA#8 ++ (a ++ q)) ++ d) ++ c := by
  rw [packFrame, wireFrame_b1, addrSeq_eq_append]
  rfl

/-- RECV's response: the packet's fields below 16 zero bits (R77). -/
theorem packPacket_eq (p : Packet) : packPacket p = (0#16 ++ (p.address ++ p.sequence)) ++ p.data := by
  rw [packPacket, BitVec.setWidth_eq_append (by decide), BitVec.append_assoc (x₁ := 0#16)]

/-! `frameAccept_scan`, `frameAccept_recv` and `frameAccept_combine` are about `(s.setRx x).setWindow w k`: with the
stream, the window and the count of `s` itself that is `s`. -/

/-- Settles O15: FrameAccept on the row's four bytes, in each of the two operations. -/
theorem framesCompleteScanAndRecv : Obligations.FramesCompleteScanAndRecv := by
  intro s a d c q i hrow
  rw [exec_of_mem_frameRows hrow]
  constructor
  · intro hop
    have haccept := State.frameAccept_scan hop s.rx s.w (wireFrame a q d c) s.wn
    rw [packFrame_wireFrame] at haccept
    exact congrArg Host.Outcome.next haccept
  · intro hop
    have haccept := State.frameAccept_recv hop s.rx s.w (wireFrame a q d c) s.wn
    rw [wireFrame_packet, packPacket_eq] at haccept
    exact congrArg Host.Outcome.next haccept

/-! ### Packets that end a COMBINE unrecorded -/

theorem State.completeVote_of_resolve {s : State} {b : Byte} (h : resolve s.sv s.sd = some b) :
    s.completeVote = s.complete (packByte b) := by
  simp [State.completeVote, h]

theorem State.completeVote_of_empty {s : State} (h : s.sv = 0#3) :
    s.completeVote = (s.complete (packByte s.drawnByte)).nextDraw := by
  have hnone : resolve s.sv s.sd = none := by rw [h]; rfl
  simp [State.completeVote, hnone]

/-- A local packet that no test still to come takes ends the vote and is recorded in no slot (R199). -/
theorem State.combineAccept_unrecorded {s : State} {p : Packet} (ha : p.address = s.localAddr)
    (hq : p.sequence = 0#3 ∧ s.cph ≠ .p0 ∨ p.sequence = 1#3 ∧ s.cph = .p2 ∨ 3 ≤ p.sequence.toNat) :
    s.combineAccept p = s.completeVote := by
  have hnot : ¬ (s.cph = .p0 ∧ p.sequence = 0#3) ∧ ¬ (s.cph ≠ .p2 ∧ p.sequence = 1#3) ∧ p.sequence ≠ 2#3 := by
    rcases hq with ⟨hq, hc⟩ | ⟨hq, hc⟩ | hq
    · simp [hq, hc]
    · simp [hq, hc]
    · refine ⟨?_, ?_, ?_⟩ <;> intro h <;> simp [h] at hq
  obtain ⟨h0, h1, h2⟩ := hnot
  rw [State.combineAccept_close (.inl ha) h0 fun ⟨hc, hq1, _⟩ => h1 ⟨hc, hq1⟩, State.closeVote, if_neg fun h => h2 h.1]

/-- The FRAME row of a local packet that no test still to come takes holds the vote behind an emptied window. -/
theorem exec_ofSeq_unrecorded {s : State} {q : Seq} (d c : Byte) (hop : s.op = .combine)
    (hq : q = 0#3 ∧ s.cph ≠ .p0 ∨ q = 1#3 ∧ s.cph = .p2 ∨ 3 ≤ q.toNat) :
    exec (Instr.ofSeq q s.localAddr d c) s = .next s.emptyWindow.completeVote := by
  have haccept : s.frameAccept (wireFrame s.localAddr q d c) = s.emptyWindow.combineAccept _ :=
    State.frameAccept_combine hop s.rx s.w (wireFrame s.localAddr q d c) s.wn
  rw [exec_ofSeq, haccept, wireFrame_packet, State.combineAccept_unrecorded rfl hq]

/-- Settles O20: the vote is over the slots as they are. -/
theorem combineClosesOnUnrecordedPacket : Obligations.CombineClosesOnUnrecordedPacket := by
  intro s a d c q i b hrow hop ha hb hq
  subst ha
  rw [eq_ofSeq_of_mem_frameRows hrow, exec_ofSeq_unrecorded d c hop hq,
    State.completeVote_of_resolve (s := s.emptyWindow) hb, packByte_eq]
  rfl

/-- Settles O21: the vote over an empty window completes with the byte drawn. -/
theorem combineEmptyWindowCompletes : Obligations.CombineEmptyWindowCompletes := by
  intro s d c i hop hsv hrow
  obtain ⟨q, hq, rfl⟩ : ∃ q : Seq, 3 ≤ q.toNat ∧ i = Instr.ofSeq q s.localAddr d c := by
    simp only [List.mem_cons, List.not_mem_nil, or_false] at hrow
    rcases hrow with rfl | rfl | rfl | rfl | rfl
    · exact ⟨3#3, by decide, rfl⟩
    · exact ⟨4#3, by decide, rfl⟩
    · exact ⟨5#3, by decide, rfl⟩
    · exact ⟨6#3, by decide, rfl⟩
    · exact ⟨7#3, by decide, rfl⟩
  refine ⟨s.drawnByte, ?_⟩
  rw [exec_ofSeq_unrecorded d c hop (.inr (.inr hq)), State.completeVote_of_empty (s := s.emptyWindow) hsv, packByte_eq]
  rfl

end Sys2Proof.Machine

namespace Sys2Proof.Machine

/-! ## The command interface: a busy engine accepts no command (R102) -/

/-- `BUSY` as R30 writes it. -/
theorem State.busy_iff (s : State) : s.busy = true ↔ s.op ≠ .idle ∨ s.rspv = true := by
  rw [← Bool.not_eq_false, s.busy_eq_false_iff, Classical.not_and_iff_not_or_not, Bool.not_eq_false]

/-- A command row changes nothing in a busy engine (R102, log 11). -/
theorem exec_of_busy {s : State} (hbusy : s.busy = true) {i : Instr} {f : State → State}
    (hf : commandEffect i = some f) : exec i s = .next s := by
  rw [exec_command i f hf, State.accept_of_busy hbusy]

/-- With a response pending a ready engine leaves the command port as it is (R102, R105). -/
theorem ReadyStep.cmds_eq_of_rspv {s t : State} (h : ReadyStep s t) (hrspv : s.rspv = true) : t.cmds = s.cmds := by
  by_cases hop : s.op = .idle
  case neg => exact h.cmds_eq hop
  cases h with
  | takeResponse => exact s.takeResponse_cmds
  | quiescent _ hr | accept _ hr => simp [hrspv] at hr
  | transmit ho => simp [hop] at ho
  | blocked ho | receive ho => simp [hop, Op.receives] at ho

/-- A ready engine that is busy leaves the command port as it is (R102). -/
theorem ReadyStep.cmds_eq_of_busy {s t : State} (h : ReadyStep s t) (hbusy : s.busy = true) : t.cmds = s.cmds :=
  s.busy_iff.1 hbusy |>.elim h.cmds_eq h.cmds_eq_of_rspv

/-- No step of a busy engine takes a word off the command port (R102). -/
theorem cmds_eq_of_step_of_busy {s t : State} (h : step s = .next t) (hbusy : s.busy = true) : t.cmds = s.cmds := by
  cases step_eq_next_iff.1 h with
  | @ready turns _ _ hr => exact hr.cmds_eq_of_busy (s := s.setSched turns) hbusy
  | wait => rfl
  | reset => rfl
  | openChannel => rfl

/-- Settles O14: `BUSY` is what the accept handshake asks, and only the accept step writes the command port. -/
theorem noCommandAcceptedWhileBusy : Obligations.NoCommandAcceptedWhileBusy := by
  intro s h
  have hbusy : s.busy = true := s.busy_iff.2 h
  refine ⟨fun t hstep => cmds_eq_of_step_of_busy hstep hbusy, fun a d => ?_⟩
  refine ⟨?nop, ?encode, ?scan, ?recv, ?filter, ?combine, ?reserved6, ?reserved7⟩
  all_goals exact exec_of_busy hbusy rfl

/-! ## The command interface: the accept step and the response step (R101, R105) -/

/-- The step of an engine that accepts takes the word offered and has the effect of the row its opcode names (R101). -/
theorem step_of_offered {s t : State} {c : CmdWord} {rest : List CmdWord} {turns : List Turn} (hs : s.accepts)
    (hready : s.readyThen turns) (hc : s.cmds = c :: rest) {o : BitVec 3} (ho : CmdWord.opc c = o)
    {f : State → State} (hf : commandEffect (Instr.ofOpcode o (CmdWord.a c) (CmdWord.d c)) = some f)
    (ht : f { s with cmds := rest, sched := turns } = t) : step s = .next t := by
  rw [stepRunsOfferedCommand s c rest _ turns hs hready hc rfl, decodeCommand_of_opc ho]
  exact exec_of_accepts (s := { s with cmds := rest, sched := turns }) hs hf ht

/-- Settles O13: for each opcode the effect of its row, its operands being the fields of the word. -/
theorem cmdAcceptByOpcode : Obligations.CmdAcceptByOpcode := by
  intro s c rest turns hs hready hc
  refine ⟨fun ho => ?nop, fun ho => ?encode, fun ho => ?scan, fun ho => ?recv, fun ho => ?filter, fun ho => ?combine,
    fun ho => ho.elim (fun ho => ?reserved6) (fun ho => ?reserved7)⟩
  all_goals exact step_of_offered hs hready hc ho rfl rfl

/-- Settles O28: the step of an idle engine with a response pending is RspTake. -/
theorem hostTakesTheResponse : Obligations.HostTakesTheResponse := by
  intro s turns ⟨hop, hrspv⟩ hready
  have htake : ReadyStep (s.setSched turns) (s.setSched turns).takeResponse := .takeResponse hop hrspv
  exact ⟨_, step_eq_next_iff.2 (.ready hready htake), rfl, hop, rfl⟩

end Sys2Proof.Machine

namespace Sys2Proof

/-! ## Valid, EncodeFrame and Decode (R120, R127, R128) -/

/-- The decoder takes exactly the valid windows (R86, R120). -/
theorem valid_iff_exists_decode (f : Frame) : f.valid = true ↔ ∃ i, decode (.frame f) = .ok i := by
  constructor
  · exact fun hvalid => ⟨_, Machine.decodeFrame_of_valid hvalid⟩
  · rintro ⟨i, hi⟩
    exact (eq_ofSeq_of_decodeFrame hi).1

theorem decode_frame_badSync {f : Frame} (h0 : f.b0 ≠ Config.sync) : decode (.frame f) = .error .badSync :=
  (decodeFrame_eq f).trans (if_pos h0)

theorem decode_frame_badChecksum {f : Frame} (h0 : f.b0 = Config.sync) (h3 : f.b3 ≠ f.b1 ^^^ f.b2) :
    decode (.frame f) = .error .badChecksum :=
  (decodeFrame_eq f).trans ((if_neg (not_not.2 h0)).trans (if_pos h3))

/-- Settles O3: `Valid` is its two conditions, and the decoder asks the one after the other. -/
theorem decoderTakesExactlyValidFrames : Obligations.DecoderTakesExactlyValidFrames := fun f =>
  ⟨valid_iff f, valid_iff_exists_decode f, decode_frame_badSync, decode_frame_badChecksum⟩

theorem valid_encodeFrame (a : Addr) (q : Seq) (d : Byte) : (encodeFrame a q d).valid = true :=
  (valid_iff _).2 ⟨rfl, rfl⟩

/-- A valid frame is EncodeFrame of its decoded fields: its checksum byte is no choice (R127 item 3). -/
theorem encodeFrame_of_valid {f : Frame} (h : f.valid = true) :
    encodeFrame f.packet.address f.packet.sequence f.packet.data = f := by
  obtain ⟨-, h3⟩ := (valid_iff f).1 h
  have hchecksum : addrSeq f.packet.address f.packet.sequence ^^^ f.packet.data = f.b3 := by
    rw [h3]
    exact congrArg (· ^^^ f.b2) (addrSeq_of_fields f.b1)
  rw [encodeFrame, hchecksum, wireFrame_of_valid f h]

/-- The checksum condition solved for each of its three bytes (R127 item 4). -/
theorem xor_of_valid {f : Frame} (h : f.valid = true) :
    f.b1 = f.b2 ^^^ f.b3 ∧ f.b2 = f.b1 ^^^ f.b3 ∧ f.b3 = f.b1 ^^^ f.b2 := by
  obtain ⟨-, h3⟩ := (valid_iff f).1 h
  refine ⟨?_, ?_, h3⟩
  · rw [h3, xor_xor_cancel_comm_assoc]
  · rw [h3, xor_cancel_left]

/-- Settles O8: the checksum EncodeFrame writes is the one `Valid` asks for, and the fields read back. -/
theorem frameFunctionIdentities : Obligations.FrameFunctionIdentities :=
  ⟨valid_encodeFrame, fun a q d => wireFrame_packet a q d _, fun _ => encodeFrame_of_valid, fun _ => xor_of_valid⟩

/-! ### Error patterns (R128) -/

/-- What a valid frame becomes is valid exactly when the error pattern leaves the sync byte alone and cancels over the
three other bytes: the two conditions of `Valid` are linear in the frame's bits. -/
theorem valid_xor_iff {f : Frame} (h : f.valid = true) (e0 e1 e2 e3 : Byte) :
    Frame.valid { b0 := f.b0 ^^^ e0, b1 := f.b1 ^^^ e1, b2 := f.b2 ^^^ e2, b3 := f.b3 ^^^ e3 } = true ↔
      e0 = 0#8 ∧ e1 ^^^ e2 ^^^ e3 = 0#8 := by
  obtain ⟨h0, h3⟩ := (valid_iff f).1 h
  have hsync : f.b0 ^^^ e0 = Config.sync ↔ e0 = 0#8 := by
    rw [← h0]
    exact xor_left_eq_self_iff
  have hchecksum : f.b3 ^^^ e3 = (f.b1 ^^^ e1) ^^^ (f.b2 ^^^ e2) ↔ e1 ^^^ e2 ^^^ e3 = 0#8 := by
    have hsplit : (f.b1 ^^^ e1) ^^^ (f.b2 ^^^ e2) = f.b3 ^^^ (e1 ^^^ e2) := by
      rw [h3]
      ac_rfl
    rw [hsplit, BitVec.xor_right_inj, BitVec.xor_eq_zero_iff, eq_comm]
  rw [valid_iff, hsync, hchecksum]

/-- Settles O9: a pattern confined to one byte is nonzero in the sync byte, or cancels with nothing. -/
theorem checksumDetection : Obligations.ChecksumDetection := by
  intro f e0 e1 e2 e3 h
  refine ⟨valid_xor_iff h e0 e1 e2 e3, fun he => ?sync, fun he => ?addrSeq, fun he => ?data, fun he => ?checksum⟩
  case sync => simpa [he] using valid_xor_iff h e0 0#8 0#8 0#8
  case addrSeq => simpa [he] using valid_xor_iff h 0#8 e1 0#8 0#8
  case data => simpa [he] using valid_xor_iff h 0#8 0#8 e2 0#8
  case checksum => simpa [he] using valid_xor_iff h 0#8 0#8 0#8 e3

end Sys2Proof

namespace Sys2Proof.Machine

/-! ## Resolve (R123, R125) -/

theorem slots_full_iff (sv : BitVec 3) :
    sv = 7#3 ↔ slotFilled sv 0 = true ∧ slotFilled sv 1 = true ∧ slotFilled sv 2 = true := by
  revert sv; decide

theorem slots_empty_iff (sv : BitVec 3) : sv = 0#3 ↔ windowNonEmpty sv = false := by
  revert sv; decide

/-- On a full window slot 0 is outvoted by slots 1 and 2 together, and by nothing else. -/
theorem resolve_full (sd : SlotData) : resolve 7#3 sd = some (if sd.d1 = sd.d2 then sd.d1 else sd.d0) := by
  have hfilled : slotFilled 7#3 0 = true ∧ slotFilled 7#3 1 = true ∧ slotFilled 7#3 2 = true := by decide
  obtain ⟨hs0, hs1, hs2⟩ := hfilled
  by_cases h : sd.d1 = sd.d2 <;> simp [resolve, hs0, hs1, hs2, h]

theorem resolve_of_slot0 {sv : BitVec 3} (hs0 : slotFilled sv 0 = true) (hfull : sv ≠ 7#3) (sd : SlotData) :
    resolve sv sd = some sd.d0 := by
  have hother : ¬ (slotFilled sv 1 = true ∧ slotFilled sv 2 = true) := fun h => hfull ((slots_full_iff sv).2 ⟨hs0, h⟩)
  simp [resolve, hs0, hother]

theorem resolve_of_slot1 {sv : BitVec 3} (hs0 : slotFilled sv 0 = false) (hs1 : slotFilled sv 1 = true)
    (sd : SlotData) : resolve sv sd = some sd.d1 := by
  simp [resolve, hs0, hs1]

theorem resolve_of_slot2 {sv : BitVec 3} (hs0 : slotFilled sv 0 = false) (hs1 : slotFilled sv 1 = false)
    (hs2 : slotFilled sv 2 = true) (sd : SlotData) : resolve sv sd = some sd.d2 := by
  simp [resolve, hs0, hs1, hs2]

/-- `b` is the content of a filled slot (R123, R125). -/
def inFilledSlot (sv : BitVec 3) (sd : SlotData) (b : Byte) : Prop :=
  slotFilled sv 0 = true ∧ b = sd.d0 ∨ slotFilled sv 1 = true ∧ b = sd.d1 ∨ slotFilled sv 2 = true ∧ b = sd.d2

/-- Whatever the vote answers is held by a filled slot (R125). -/
theorem inFilledSlot_of_resolve {sv : BitVec 3} {sd : SlotData} {b : Byte} (h : resolve sv sd = some b) :
    inFilledSlot sv sd b := by
  cases hs0 : slotFilled sv 0 with
  | true =>
    by_cases hfull : sv = 7#3
    · subst hfull
      rw [resolve_full] at h
      split at h
      · exact .inr (.inl ⟨by decide, (Option.some.inj h).symm⟩)
      · exact .inl ⟨hs0, (Option.some.inj h).symm⟩
    · rw [resolve_of_slot0 hs0 hfull] at h
      exact .inl ⟨hs0, (Option.some.inj h).symm⟩
  | false =>
    cases hs1 : slotFilled sv 1 with
    | true =>
      rw [resolve_of_slot1 hs0 hs1] at h
      exact .inr (.inl ⟨hs1, (Option.some.inj h).symm⟩)
    | false =>
      cases hs2 : slotFilled sv 2 with
      | true =>
        rw [resolve_of_slot2 hs0 hs1 hs2] at h
        exact .inr (.inr ⟨hs2, (Option.some.inj h).symm⟩)
      | false => simp [resolve, hs0, hs1, hs2] at h

/-- Settles O10: the vote branch by branch; that it has an answer is that the window is not empty. -/
theorem resolveProperties : Obligations.ResolveProperties := by
  intro sv sd
  refine ⟨?full, fun hs0 hfull => resolve_of_slot0 hs0 hfull sd, fun hs0 hs1 => resolve_of_slot1 hs0 hs1 sd,
    fun hs0 hs1 hs2 => resolve_of_slot2 hs0 hs1 hs2 sd, ?nonempty⟩
  case full =>
    rintro rfl
    rw [resolve_full]
    refine ⟨fun h12 => ?_, fun h01 => ?_, fun h02 => ?_, fun _ h12 _ => ?_⟩
    · rw [if_pos h12]
    · rw [h01, ite_self]
    · split
      next h12 => rw [h12, h02]
      next => rfl
    · rw [if_neg h12]
  case nonempty =>
    intro hsv
    have hsome : resolve sv sd ≠ none := fun h => hsv ((slots_empty_iff sv).2 ((resolve_eq_none_iff sv sd).1 h))
    obtain ⟨b, hb⟩ := Option.ne_none_iff_exists'.1 hsome
    exact ⟨b, hb, inFilledSlot_of_resolve hb⟩

/-! ## EncByte (R126, R129) -/

/-- `n mod 4` and `n div 4` are the two bit fields of `n` (R126). -/
theorem toNat_eq_offset_add_frame (n : BitVec 4) :
    n.toNat = (n.extractLsb' 0 2).toNat + 4 * (n.extractLsb' 2 2).toNat := by
  revert n; decide

theorem streamEncode_length (a : Addr) (d : Byte) : (streamEncode a d).length = 12 := rfl

theorem frameBytes_append_getElem? (f : Frame) (rest : List Byte) (j : BitVec 2) :
    (frameBytes f ++ rest)[j.toNat]? = some (frameByte f j) := by
  have hcases : j = 0 ∨ j = 1 ∨ j = 2 ∨ j = 3 := by revert j; decide
  rcases hcases with rfl | rfl | rfl | rfl <;> rfl

/-- Byte `j` of frame `i` of the expansion: the frames in front of it are 4 bytes each (R55, R140). -/
theorem streamEncode_getElem? (a : Addr) (d : Byte) {i : BitVec 2} (hi : i.toNat ≤ 2) (j : BitVec 2) :
    (streamEncode a d)[j.toNat + 4 * i.toNat]? = some (frameByte (encodeFrame a (i.setWidth 3) d) j) := by
  have hcases : i = 0 ∨ i = 1 ∨ i = 2 := by revert i; decide
  rcases hcases with rfl | rfl | rfl
  · exact frameBytes_append_getElem? (encodeFrame a 0#3 d) _ j
  · exact frameBytes_append_getElem? (encodeFrame a 1#3 d) (frameBytes (encodeFrame a 2#3 d)) j
  · exact frameBytes_append_getElem? (encodeFrame a 2#3 d) [] j

/-- Settles O11: byte `n` is byte `n mod 4` of frame `n div 4`. -/
theorem encByteIndexesTheExpansion : Obligations.EncByteIndexesTheExpansion := by
  intro a d n hn
  have hindex := toNat_eq_offset_add_frame n
  refine ⟨streamEncode_length a d, ?_⟩
  rw [hindex]
  exact streamEncode_getElem? a d (by omega) _

end Sys2Proof.Machine

namespace Sys2Proof.Machine

/-! ## The encoder (R140 to R143) -/

theorem State.txStep_of_last {s : State} (h : s.tcnt = 11#4) :
    s.txStep = (s.txPush (encByte s.taddr s.tdata 11#4)).complete 0#32 := by
  rcases s.txStep_cases with ⟨-, hstep⟩ | ⟨hne, -⟩
  · rw [hstep, h]
  · exact absurd h hne

theorem State.txStep_of_not_last {s : State} (h : s.tcnt ≠ 11#4) :
    s.txStep = { s.txPush (encByte s.taddr s.tdata s.tcnt) with tcnt := s.tcnt + 1#4 } := by
  rcases s.txStep_cases with ⟨heq, -⟩ | ⟨-, hstep⟩
  · exact absurd heq h
  · exact hstep

/-- The step of an ENCODE in progress is TxStep, whatever is left of the schedule (R35, R142). -/
theorem step_transmit_of_readyThen {s : State} {turns : List Turn} (hready : s.readyThen turns) (hop : s.op = .encode)
    (hch : s.channel.transmitRefusal = none) : step s = .next (s.setSched turns).txStep := by
  have htransmit : ReadyStep (s.setSched turns) (s.setSched turns).txStep := .transmit hop hch
  exact step_eq_next_iff.2 (.ready hready htransmit)

/-- The step of an ENCODE in progress is TxStep (R35, R142). -/
theorem step_transmit {s : State} (hs : s.sched = []) (hop : s.op = .encode)
    (hch : s.channel.transmitRefusal = none) : step s = .next s.txStep := by
  rw [step_transmit_of_readyThen (.inl ⟨hs, rfl⟩) hop hch, State.setSched_of_empty hs]

/-- Settles O27: the step is TxStep, by whether it sends the twelfth byte. -/
theorem transmitStepPushesOneByte : Obligations.TransmitStepPushesOneByte := by
  intro s rx turns hop hready hch
  have hstep := step_transmit_of_readyThen hready hop (by rw [hch]; rfl)
  refine ⟨fun hlast => ?last, fun hnot => ?more⟩
  case last =>
    rw [hstep, State.txStep_of_last (s := s.setSched turns) hlast]
    rfl
  case more =>
    rw [hstep, State.txStep_of_not_last (s := s.setSched turns) hnot]
    rfl

/-- What is left of the expansion at index `n` begins with `EncByte(a, d, n)` (R129). -/
theorem streamEncode_drop (a : Addr) (d : Byte) {n : BitVec 4} (hn : n.toNat ≤ 11) :
    (streamEncode a d).drop n.toNat = encByte a d n :: (streamEncode a d).drop (n.toNat + 1) := by
  obtain ⟨-, hbyte⟩ := encByteIndexesTheExpansion a d n hn
  obtain ⟨hlt, hget⟩ := List.getElem?_eq_some_iff.1 hbyte
  rw [List.drop_eq_getElem_cons hlt, hget]

theorem ne_last_of_lt {n : BitVec 4} (h : n.toNat < 11) : n ≠ 11#4 := by
  rintro rfl
  exact absurd h (by decide)

/-- A TxStep before the twelfth byte counts on and leaves the ENCODE in progress (R142). -/
theorem State.txStep_continues {s : State} (h : s.tcnt.toNat < 11) :
    s.txStep.tcnt.toNat = s.tcnt.toNat + 1 ∧ s.txStep.op = s.op ∧ s.txStep.channel = s.channel ∧
      s.txStep.sched = s.sched := by
  have hcount : (s.tcnt + 1#4).toNat = s.tcnt.toNat + 1 := BitVec.toNat_add_of_lt (by simp; omega)
  rw [State.txStep_of_not_last (ne_last_of_lt h)]
  exact ⟨hcount, rfl, rfl, rfl⟩

/-- The ENCODE in progress run to its end: every byte from index `TCNT` on sent, the operation complete (R142, R143). -/
def State.encodeSent (s : State) : State :=
  { s with
    tx := s.tx ++ (streamEncode s.taddr s.tdata).drop s.tcnt.toNat, tcnt := 11#4
    rsp := 0#32, rspv := true, op := .idle }

/-- The twelfth byte is the last of the expansion, and completes the operation (R142). -/
theorem State.txStep_eq_encodeSent {s : State} (h : s.tcnt = 11#4) : s.txStep = s.encodeSent := by
  rw [State.txStep_of_last h, State.encodeSent, h, streamEncode_drop s.taddr s.tdata (by decide)]
  simp [State.txPush, State.complete, h, streamEncode_length]

/-- A TxStep before the twelfth byte moves one byte from what is still to be sent to what was sent (R142). -/
theorem State.encodeSent_txStep {s : State} (h : s.tcnt.toNat < 11) : s.txStep.encodeSent = s.encodeSent := by
  obtain ⟨hcount, -⟩ := State.txStep_continues h
  rw [State.encodeSent, hcount, State.txStep_of_not_last (ne_last_of_lt h), State.encodeSent,
    streamEncode_drop _ _ h.le]
  simp [State.txPush]

/-- An ENCODE with `k + 1` bytes still to send ends after exactly `k + 1` TxSteps (R142, R143). -/
theorem runSteps_encode {k : Nat} {s : State} (hs : s.sched = []) (hop : s.op = .encode)
    (hch : s.channel.transmitRefusal = none) (hk : s.tcnt.toNat + k = 11) :
    runSteps (k + 1) s = some s.encodeSent := by
  induction k generalizing s with
  | zero =>
    have hlast : s.tcnt = 11#4 := BitVec.eq_of_toNat_eq hk
    rw [runSteps_of_step (step_transmit hs hop hch), State.txStep_eq_encodeSent hlast]
    rfl
  | succ k ih =>
    have hmore : s.tcnt.toNat < 11 := by omega
    obtain ⟨hcount, hop', hch', hs'⟩ := State.txStep_continues hmore
    rw [runSteps_of_step (step_transmit hs hop hch), ← State.encodeSent_txStep hmore]
    exact ih (hs'.trans hs) (hop'.trans hop) (hch' ▸ hch) (by omega)

/-- Settles O40: the accept step latches the operands and starts at byte 0; the twelve TxSteps send the expansion. -/
theorem encodeSendsItsTwelveBytes : Obligations.EncodeSendsItsTwelveBytes := by
  intro s a d rest c rx hacc hs hch hc hdecode
  have haccept : step s = exec (.encode a d) { s with cmds := rest, sched := [] } :=
    stepRunsOfferedCommand s c rest _ [] hacc (.inl ⟨hs, rfl⟩) hc hdecode
  have hstart : step s =
      .next { s with cmds := rest, sched := [], taddr := a, tdata := d, tcnt := 0#4, op := .encode } :=
    haccept.trans (exec_of_accepts (s := { s with cmds := rest, sched := [] }) hacc rfl rfl)
  rw [runSteps_of_step hstart, runSteps_encode (k := 11) rfl rfl (by rw [hch]; rfl) rfl, hs]
  rfl

/-! ## COMBINE of an expansion (R140, R193) -/

theorem streamRecv_encodeFrame (a : Addr) (q : Seq) (d : Byte) (bytes : List Byte) :
    streamRecv (frameBytes (encodeFrame a q d) ++ bytes) = some ({ address := a, sequence := q, data := d }, bytes) :=
  streamRecv_eq_some_iff.2 ⟨_, streamScan_of_valid (valid_encodeFrame a q d) bytes, wireFrame_packet ..⟩

theorem streamFilter_encodeFrame (a : Addr) (q : Seq) (d : Byte) (bytes : List Byte) :
    streamFilter a (frameBytes (encodeFrame a q d) ++ bytes) =
      some ({ address := a, sequence := q, data := d }, bytes) := by
  rw [streamFilter, streamFilterWithin, streamRecv_encodeFrame]
  exact if_pos rfl

/-- A frame for the local address is fetched under both parameter values (R194). -/
theorem streamFetch2_encodeFrame (rf : Bool) (a : Addr) (q : Seq) (d : Byte) (bytes : List Byte) :
    streamFetch2 rf a (frameBytes (encodeFrame a q d) ++ bytes) =
      some ({ address := a, sequence := q, data := d }, bytes) := by
  cases rf with
  | true => exact streamFilter_encodeFrame a q d bytes
  | false => exact streamRecv_encodeFrame a q d bytes

/-- With its second frame current and the third next, an expansion fills slots 1 and 2 (R196, R197). -/
theorem voteTests12_streamEncode (rf : Bool) (a : Addr) (d : Byte) (sv : BitVec 3) (sd : SlotData) (rest : List Byte) :
    voteTests12 rf a
        { sv := sv, sd := sd, cur := { address := a, sequence := 1#3, data := d }
          rest := frameBytes (encodeFrame a 2#3 d) ++ rest } =
      some { sv := fillSlot (fillSlot sv 1) 2, sd := { sd with d1 := d, d2 := d }
             cur := { address := a, sequence := 2#3, data := d }, rest := rest } := by
  rw [voteTests12_of_seq1 (by exact ⟨rfl, rfl⟩), streamFetch2_encodeFrame]
  exact congrArg some (if_pos ⟨rfl, rfl⟩)

/-- COMBINE of an expansion (R140, R193): each of its three frames passes its test and fills its slot. -/
theorem streamCombine_streamEncode (rf : Bool) (a : Addr) (d : Byte) (sd : SlotData) (rest : List Byte) :
    streamCombine rf a sd (streamEncode a d ++ rest) =
      some { sv := 7#3, sd := { d0 := d, d1 := d, d2 := d }
             cur := { address := a, sequence := 2#3, data := d }, rest := rest } := by
  rw [streamEncode, List.append_assoc, List.append_assoc, streamCombine_eq, streamFilter_encodeFrame, Option.bind_some,
    voteTests_of_seq0 rfl, streamFetch2_encodeFrame]
  exact voteTests12_streamEncode rf a d (fillSlot 0#3 0) { sd with d0 := d } rest

/-- Settles O50: the three slots hold the same byte, and the vote on a full window answers it. -/
theorem combineReturnsWhatWasEncoded : Obligations.CombineReturnsWhatWasEncoded := by
  intro rf a d sd rest
  refine ⟨_, streamCombine_streamEncode rf a d sd rest, rfl, ?_, rfl⟩
  rw [resolve_full, if_pos rfl]

end Sys2Proof.Machine

namespace Sys2Proof.Machine

/-! ## The first valid window (R157) -/

/-- No valid window begins at index `k`, for want of four bytes or of a valid frame (R120, R157). -/
def NoValidWindowAt (s : List Byte) (k : Nat) : Prop := ∀ g r, s.drop k = frameBytes g ++ r → g.valid = false

theorem not_noValidWindowAt_iff {s : List Byte} {k : Nat} :
    ¬ NoValidWindowAt s k ↔ ∃ f rest, s.drop k = frameBytes f ++ rest ∧ f.valid = true := by
  simp [NoValidWindowAt]

/-- The window at the least index whose window is valid is `f`, and `rest` is the stream behind it (R157). -/
def FirstValidWindow (s : List Byte) (f : Frame) (rest : List Byte) : Prop :=
  ∃ k, s.drop k = frameBytes f ++ rest ∧ f.valid = true ∧ ∀ j, j < k → NoValidWindowAt s j

/-- A scan moves on by one byte where no valid window begins (R156). -/
theorem streamScan_cons_of_noValidWindowAt {b : Byte} {bytes : List Byte} (h : NoValidWindowAt (b :: bytes) 0) :
    streamScan (b :: bytes) = streamScan bytes := by
  match bytes with
  | [] | [_] | [_, _] => rfl
  | b1 :: b2 :: b3 :: rest =>
    have hnot := h { b0 := b, b1 := b1, b2 := b2, b3 := b3 } rest rfl
    exact if_neg (Bool.eq_false_iff.1 hnot)

/-- A scan skips every index at which no valid window begins (R157). -/
theorem streamScan_drop {s : List Byte} {k : Nat} (h : ∀ j, j < k → NoValidWindowAt s j) :
    streamScan (s.drop k) = streamScan s := by
  induction k generalizing s with
  | zero => rfl
  | succ k ih =>
    cases s with
    | nil => rfl
    | cons b bytes =>
      calc streamScan (bytes.drop k)
        _ = streamScan bytes := ih fun j hj => h (j + 1) (Nat.succ_lt_succ hj)
        _ = streamScan (b :: bytes) := (streamScan_cons_of_noValidWindowAt (h 0 k.succ_pos)).symm

theorem streamScan_of_firstValidWindow {s rest : List Byte} {f : Frame} (h : FirstValidWindow s f rest) :
    streamScan s = some (f, rest) := by
  obtain ⟨k, hwindow, hvalid, hbefore⟩ := h
  rw [← streamScan_drop hbefore, hwindow, streamScan_of_valid hvalid]

theorem streamScan_of_noValidWindow {s : List Byte} (h : ∀ k, NoValidWindowAt s k) : streamScan s = none := by
  calc streamScan s
    _ = streamScan (s.drop s.length) := (streamScan_drop fun j _ => h j).symm
    _ = none := by rw [List.drop_length]; rfl

theorem exists_firstValidWindow_or_none (s : List Byte) :
    (∃ f rest, FirstValidWindow s f rest) ∨ ∀ k, NoValidWindowAt s k := by
  classical
  by_cases h : ∃ k, ¬ NoValidWindowAt s k
  · obtain ⟨f, rest, hwindow, hvalid⟩ := not_noValidWindowAt_iff.1 (Nat.find_spec h)
    exact .inl ⟨f, rest, Nat.find h, hwindow, hvalid, fun j hj => not_not.1 (Nat.find_min h hj)⟩
  · exact .inr (not_exists_not.1 h)

/-- A scan answers the first valid window (R157). -/
theorem streamScan_eq_some_iff {s rest : List Byte} {f : Frame} :
    streamScan s = some (f, rest) ↔ FirstValidWindow s f rest := by
  refine ⟨fun h => ?_, streamScan_of_firstValidWindow⟩
  rcases exists_firstValidWindow_or_none s with ⟨g, r, hfirst⟩ | hnone
  · cases (streamScan_of_firstValidWindow hfirst).symm.trans h
    exact hfirst
  · cases (streamScan_of_noValidWindow hnone).symm.trans h

/-- A scan blocks exactly when no window is valid (R157, R158). -/
theorem streamScan_eq_none_iff {s : List Byte} : streamScan s = none ↔ ∀ k, NoValidWindowAt s k := by
  refine ⟨fun h => ?_, streamScan_of_noValidWindow⟩
  rcases exists_firstValidWindow_or_none s with ⟨g, r, hfirst⟩ | hnone
  · cases (streamScan_of_firstValidWindow hfirst).symm.trans h
  · exact hnone

/-- Settles O44: a stream has a first valid window or none at all, and the scan answers accordingly. -/
theorem scanFindsTheFirstValidWindow : Obligations.ScanFindsTheFirstValidWindow := fun _ =>
  ⟨fun _ _ => streamScan_eq_some_iff, streamScan_eq_none_iff⟩

/-! ## RECV of an expansion (R140, R163) -/

/-- Settles O46: each RECV takes the next frame of the expansion. -/
theorem roundTripGivesThreePackets : Obligations.RoundTripGivesThreePackets := by
  intro a d
  exact ⟨_, _, streamRecv_encodeFrame a 0#3 d (frameBytes (encodeFrame a 1#3 d) ++ frameBytes (encodeFrame a 2#3 d)),
    rfl, streamRecv_encodeFrame a 1#3 d (frameBytes (encodeFrame a 2#3 d)), rfl,
    streamRecv_encodeFrame a 2#3 d [], rfl⟩

/-! ## Steps with nothing enabled (R158, R262) -/

/-- Settles O30: a blocked and a quiescent engine take the turn and no more, as every state does at a wait. -/
theorem nothingEnabledNothingChanges : Obligations.NothingEnabledNothingChanges := by
  intro s turns
  refine ⟨fun hready ⟨hop, hpull⟩ => ?blocked, fun hready ⟨⟨hop, hrspv⟩, hcmds⟩ => ?ended, fun hwait => ?waiting⟩
  case blocked =>
    have hstays : ReadyStep (s.setSched turns) (s.setSched turns) := .blocked hop hpull
    exact step_eq_next_iff.2 (.ready hready hstays)
  case ended =>
    have hstays : ReadyStep (s.setSched turns) (s.setSched turns) := .quiescent hop hrspv hcmds
    exact step_eq_next_iff.2 (.ready hready hstays)
  case waiting => exact step_eq_next_iff.2 (.wait hwait)

end Sys2Proof.Machine

namespace Sys2Proof.Machine

/-! ## FILTER (R177 to R182) -/

/-! ### FILTER is RECV repeated (R178, R181) -/

theorem streamFilterWithin_of_recv_none {bytes : List Byte} (n : Nat) (a : Addr) (h : streamRecv bytes = none) :
    streamFilterWithin (n + 1) a bytes = none := by
  rw [streamFilterWithin, h]

theorem streamFilterWithin_of_recv {bytes rest : List Byte} {p : Packet} (n : Nat) (a : Addr)
    (h : streamRecv bytes = some (p, rest)) :
    streamFilterWithin (n + 1) a bytes = if p.address = a then some (p, rest) else streamFilterWithin n a rest := by
  rw [streamFilterWithin, h]

/-- A bound above the length of the stream is never met, so two such bounds give the same: each packet takes one from
the bound and at least four bytes from the stream. -/
theorem streamFilterWithin_eq_of_length_lt {m n : Nat} {bytes : List Byte} (a : Addr) (hm : bytes.length < m)
    (hn : bytes.length < n) : streamFilterWithin m a bytes = streamFilterWithin n a bytes := by
  induction m generalizing n bytes with
  | zero => cases hm
  | succ m ih =>
    obtain ⟨n, rfl⟩ := Nat.exists_eq_add_one.2 (Nat.zero_lt_of_lt hn)
    cases hrecv : streamRecv bytes with
    | none => rw [streamFilterWithin_of_recv_none m a hrecv, streamFilterWithin_of_recv_none n a hrecv]
    | some found =>
      obtain ⟨p, rest⟩ := found
      have hrest := streamRecv_length hrecv
      have hbehind : streamFilterWithin m a rest = streamFilterWithin n a rest := ih (by omega) (by omega)
      rw [streamFilterWithin_of_recv m a hrecv, streamFilterWithin_of_recv n a hrecv, hbehind]

/-- FILTER returns the next packet if it is for `a`, and else filters what is behind it (R178). -/
theorem streamFilter_of_recv {bytes rest : List Byte} {p : Packet} (a : Addr)
    (h : streamRecv bytes = some (p, rest)) :
    streamFilter a bytes = if p.address = a then some (p, rest) else streamFilter a rest := by
  have hrest := streamRecv_length h
  have hbound : streamFilterWithin bytes.length a rest = streamFilter a rest :=
    streamFilterWithin_eq_of_length_lt a (by omega) (Nat.lt_succ_self _)
  rw [streamFilter, streamFilterWithin_of_recv _ a h, hbound]

/-- Settles O45: one packet pulled leaves the filter of what is behind it, as the bound is never met. -/
theorem filterIsRepeatedRecv : Obligations.FilterIsRepeatedRecv := by
  intro a s
  refine ⟨streamFilterWithin_of_recv_none s.length a, fun p rest hrecv => ⟨fun ha => ?_, fun ha => ?_⟩⟩
  · rw [streamFilter_of_recv a hrecv, if_pos ha]
  · rw [streamFilter_of_recv a hrecv, if_neg ha]

/-- Settles O47: with `REFETCH_FILTERED` true a further fetch is a FILTER (R194, R202). -/
theorem filteredFetchesAreLocal : Obligations.FilteredFetchesAreLocal := by
  intro a s p rest
  exact ⟨streamFilter_address, fun hfetch => (streamFetch2_address hfetch).resolve_right (by decide)⟩

/-! ### What a FRAME row does to a FILTER (R177, R179) -/

/-- A FRAME row is a FilterAccept of its packet behind an emptied window (R161). -/
theorem exec_of_mem_frameRows_filter {s : State} {a : Addr} {d c : Byte} {q : Seq} {i : Instr}
    (hrow : (q, i) ∈ frameRows a d c) (hop : s.op = .filter) :
    exec i s = .next (s.emptyWindow.filterAccept { address := a, sequence := q, data := d }) := by
  have haccept : s.frameAccept (wireFrame a q d c) = s.emptyWindow.filterAccept _ :=
    State.frameAccept_filter hop s.rx s.w (wireFrame a q d c) s.wn
  rw [exec_of_mem_frameRows hrow, haccept, wireFrame_packet]

/-- Settles O16: the packet's address alone decides between completion and an emptied window. -/
theorem filterComparesTheAddress : Obligations.FilterComparesTheAddress := by
  intro s a d c q i hrow hop
  rw [exec_of_mem_frameRows_filter hrow hop]
  refine ⟨fun ha => ?_, fun ha => ?_⟩
  · rw [State.filterAccept_of_local (s := s.emptyWindow) ha, packPacket_eq]
    rfl
  · rw [State.filterAccept_of_foreign (s := s.emptyWindow) ha]
    rfl

end Sys2Proof.Machine

namespace Sys2Proof.Machine

/-! ## COMBINE (R190 to R208) -/

/-! ### The vote over a window with a filled slot -/

theorem windowNonEmpty_fillSlot {i : Nat} (hi : i < 3) (sv : BitVec 3) : windowNonEmpty (fillSlot sv i) = true := by
  revert i sv; decide

/-- Only an empty window has no result (R200). -/
theorem exists_resolve_of_nonEmpty {sv : BitVec 3} (h : windowNonEmpty sv = true) (sd : SlotData) :
    ∃ b, resolve sv sd = some b :=
  Option.ne_none_iff_exists'.1 fun hnone => by simp [(resolve_eq_none_iff sv sd).1 hnone] at h

/-! ### COMBINE as a function of the stream: its rows (R193, R204)

What is left to do in each row once its last packet is fetched is the third test, `voteTest2`. -/

theorem voteTest2_of_seq2 {a : Addr} {p : Packet} (hq : p.sequence = 2#3) (ha : p.address = a) (sv : BitVec 3)
    (sd : SlotData) (rest : List Byte) :
    voteTest2 a { sv := sv, sd := sd, cur := p, rest := rest } =
      { sv := fillSlot sv 2, sd := { sd with d2 := p.data }, cur := p, rest := rest } :=
  if_pos ⟨hq, ha⟩

theorem voteTest2_of_not_seq2 {a : Addr} {v : VoteRun} (hq : v.cur.sequence ≠ 2#3) : voteTest2 a v = v :=
  if_neg fun h => hq h.1

section Rows
variable {rf : Bool} {a : Addr} {s s1 s2 s3 : List Byte} {p0 p1 p2 : Packet}

/-- Neither of the first two tests takes the first packet: one fetch, and only slot 2 can be filled. -/
theorem streamCombine_of_one_fetch (sd : SlotData) (h0 : streamFilter a s = some (p0, s1))
    (hq0 : p0.sequence ≠ 0#3) (hq1 : p0.sequence ≠ 1#3) :
    streamCombine rf a sd s = some (voteTest2 a { sv := 0#3, sd := sd, cur := p0, rest := s1 }) := by
  rw [streamCombine_eq, h0, Option.bind_some, voteTests_of_not_seq0 hq0, voteTests12_of_not_seq1 fun h => hq1 h.1]

/-- A first packet of sequence 1 fills slot 1 (R196): two fetches. -/
theorem streamCombine_of_seq1 (sd : SlotData) (h0 : streamFilter a s = some (p0, s1)) (hq : p0.sequence = 1#3)
    (h1 : streamFetch2 rf a s1 = some (p1, s2)) :
    streamCombine rf a sd s =
      some (voteTest2 a { sv := 2#3, sd := { sd with d1 := p0.data }, cur := p1, rest := s2 }) := by
  have hq0 : p0.sequence ≠ 0#3 := by simp [hq]
  rw [streamCombine_eq, h0, Option.bind_some, voteTests_of_not_seq0 hq0,
    voteTests12_of_seq1 ⟨hq, streamFilter_address h0⟩, h1]
  dsimp only [Option.bind_some]
  rfl

/-- A first packet of sequence 0 fills slot 0 (R195), and the second test does not take the next: two fetches. -/
theorem streamCombine_of_seq0 (sd : SlotData) (h0 : streamFilter a s = some (p0, s1)) (hq : p0.sequence = 0#3)
    (h1 : streamFetch2 rf a s1 = some (p1, s2)) (hq1 : p1.sequence ≠ 1#3) :
    streamCombine rf a sd s =
      some (voteTest2 a { sv := 1#3, sd := { sd with d0 := p0.data }, cur := p1, rest := s2 }) := by
  rw [streamCombine_eq, h0, Option.bind_some, voteTests_of_seq0 hq, h1, Option.bind_some,
    voteTests12_of_not_seq1 fun h => hq1 h.1]
  dsimp only [Option.bind_some]
  rfl

/-- Packets of sequence 0 and 1 fill slots 0 and 1 (R195, R196): three fetches. -/
theorem streamCombine_of_seq0_seq1 (sd : SlotData) (h0 : streamFilter a s = some (p0, s1)) (hq : p0.sequence = 0#3)
    (h1 : streamFetch2 rf a s1 = some (p1, s2)) (hq1 : p1.sequence = 1#3 ∧ p1.address = a)
    (h2 : streamFetch2 rf a s2 = some (p2, s3)) :
    streamCombine rf a sd s =
      some (voteTest2 a { sv := 3#3, sd := { sd with d0 := p0.data, d1 := p1.data }, cur := p2, rest := s3 }) := by
  rw [streamCombine_eq, h0, Option.bind_some, voteTests_of_seq0 hq, h1, Option.bind_some, voteTests12_of_seq1 hq1, h2]
  dsimp only [Option.bind_some]
  rfl

end Rows

/-! ### Every shape of window is reachable (R204) -/

/-- A sequence number with which the last packet fetched fills slot 2 exactly if `sv` has it. -/
def closingSeq (sv : BitVec 3) : Seq := if slotFilled sv 2 then 2#3 else 3#3

theorem closingSeq_not_early (sv : BitVec 3) : closingSeq sv ≠ 0#3 ∧ closingSeq sv ≠ 1#3 := by
  revert sv; decide

/-- With slots 0 and 1 as in `sv`, a packet of that sequence number makes the window `sv`. -/
theorem voteTest2_closingSeq (a : Addr) (sv : BitVec 3) (sd : SlotData) (d : Byte) (rest : List Byte) :
    (voteTest2 a
      { sv := sv &&& 3#3, sd := sd, cur := { address := a, sequence := closingSeq sv, data := d }, rest := rest }).sv =
      sv := by
  by_cases h : slotFilled sv 2 = true
  · have hsv : fillSlot (sv &&& 3#3) 2 = sv := by revert sv; decide
    have hq : closingSeq sv = 2#3 := if_pos h
    rwa [voteTest2_of_seq2 (p := { address := a, sequence := closingSeq sv, data := d }) hq rfl]
  · have hq : closingSeq sv ≠ 2#3 := by simp [closingSeq, h]
    have hsv : sv &&& 3#3 = sv := by revert sv; decide
    rwa [voteTest2_of_not_seq2 hq]

/-- A frame of sequence 0 for slot 0, one of sequence 1 for slot 1, then one that decides slot 2. -/
theorem exists_streamCombine_of_window (a : Addr) (sd : SlotData) (sv : BitVec 3) :
    ∃ s v, streamCombine true a sd s = some v ∧ v.sv = sv := by
  have hearly : sv &&& 3#3 = 0#3 ∨ sv &&& 3#3 = 1#3 ∨ sv &&& 3#3 = 2#3 ∨ sv &&& 3#3 = 3#3 := by revert sv; decide
  obtain ⟨hlast0, hlast1⟩ := closingSeq_not_early sv
  have hfirst (q : Seq) (bytes : List Byte) := streamFilter_encodeFrame a q 0#8 bytes
  have hnext (q : Seq) (bytes : List Byte) := streamFetch2_encodeFrame true a q 0#8 bytes
  have hlast := hnext (closingSeq sv) []
  rcases hearly with h | h | h | h
  · exact ⟨_, _, streamCombine_of_one_fetch sd (hfirst _ []) hlast0 hlast1, h ▸ voteTest2_closingSeq a sv _ _ _⟩
  · exact ⟨_, _, streamCombine_of_seq0 sd (hfirst 0#3 _) rfl hlast hlast1, h ▸ voteTest2_closingSeq a sv _ _ _⟩
  · exact ⟨_, _, streamCombine_of_seq1 sd (hfirst 1#3 _) rfl hlast, h ▸ voteTest2_closingSeq a sv _ _ _⟩
  · exact ⟨_, _, streamCombine_of_seq0_seq1 sd (hfirst 0#3 _) rfl (hnext 1#3 _) ⟨rfl, rfl⟩ hlast,
      h ▸ voteTest2_closingSeq a sv _ _ _⟩

/-- Settles O48: the fetches of each row give the window before the third test; then the last packet is of sequence 2 or
it is not. -/
theorem voteWindowShapes : Obligations.VoteWindowShapes := by
  refine ⟨?rows, ?packets, exists_streamCombine_of_window⟩
  case packets =>
    intro a q0 q1 q2 d0 d1 d2
    exact ⟨_, _, _, [], streamFilter_encodeFrame a q0 d0 _, streamFilter_encodeFrame a q1 d1 _,
      streamFilter_encodeFrame a q2 d2 []⟩
  case rows =>
    intro a sd s s1 p0 h0
    refine ⟨fun hq => ?seq2, fun hq => ?seq3to7, fun p1 s2 h1 => ⟨fun hq hq1 => ?seq12, fun hq hq1 => ?seq1,
      fun hq hq1 => ?seq02, fun hq hq1 hq2 => ?seq0, fun p2 s3 h2 hq hq1 => ⟨fun hq2 => ?seq012, fun hq2 => ?seq01⟩⟩⟩
    case seq2 =>
      refine ⟨_, streamCombine_of_one_fetch sd h0 (by simp [hq]) (by simp [hq]), ?_⟩
      rw [voteTest2_of_seq2 hq (streamFilter_address h0)]
      exact ⟨rfl, resolve_of_slot2 (sv := 4#3) (by decide) (by decide) (by decide) _, rfl⟩
    case seq3to7 =>
      have hnot : p0.sequence ≠ 0#3 ∧ p0.sequence ≠ 1#3 ∧ p0.sequence ≠ 2#3 := by bv_omega
      obtain ⟨hq0, hq1, hq2⟩ := hnot
      refine ⟨_, streamCombine_of_one_fetch sd h0 hq0 hq1, ?_⟩
      rw [voteTest2_of_not_seq2 hq2]
      exact ⟨rfl, (resolve_eq_none_iff 0#3 sd).2 rfl, rfl⟩
    case seq12 =>
      refine ⟨_, streamCombine_of_seq1 sd h0 hq h1, ?_⟩
      rw [voteTest2_of_seq2 hq1 (streamFilter_address h1)]
      exact ⟨rfl, resolve_of_slot1 (sv := 6#3) (by decide) (by decide) _, rfl⟩
    case seq1 =>
      refine ⟨_, streamCombine_of_seq1 sd h0 hq h1, ?_⟩
      rw [voteTest2_of_not_seq2 hq1]
      exact ⟨rfl, resolve_of_slot1 (sv := 2#3) (by decide) (by decide) _, rfl⟩
    case seq02 =>
      refine ⟨_, streamCombine_of_seq0 sd h0 hq h1 (by simp [hq1]), ?_⟩
      rw [voteTest2_of_seq2 hq1 (streamFilter_address h1)]
      exact ⟨rfl, resolve_of_slot0 (sv := 5#3) (by decide) (by decide) _, rfl⟩
    case seq0 =>
      refine ⟨_, streamCombine_of_seq0 sd h0 hq h1 hq1, ?_⟩
      rw [voteTest2_of_not_seq2 hq2]
      exact ⟨rfl, resolve_of_slot0 (sv := 1#3) (by decide) (by decide) _, rfl⟩
    case seq012 =>
      refine ⟨_, streamCombine_of_seq0_seq1 sd h0 hq h1 ⟨hq1, streamFilter_address h1⟩ h2, ?_⟩
      rw [voteTest2_of_seq2 hq2 (streamFilter_address h2)]
      exact ⟨rfl, rfl, rfl⟩
    case seq01 =>
      refine ⟨_, streamCombine_of_seq0_seq1 sd h0 hq h1 ⟨hq1, streamFilter_address h1⟩ h2, ?_⟩
      rw [voteTest2_of_not_seq2 hq2]
      exact ⟨rfl, resolve_of_slot0 (sv := 3#3) (by decide) (by decide) _, rfl⟩

/-! ### No test empties the window (90_conflicts.md C3) -/

theorem voteTest2_nonEmpty {v : VoteRun} (a : Addr) (hv : windowNonEmpty v.sv = true) :
    windowNonEmpty (voteTest2 a v).sv = true := by
  unfold voteTest2
  split
  · exact windowNonEmpty_fillSlot (by decide) v.sv
  · exact hv

theorem voteTests12_nonEmpty {rf : Bool} {a : Addr} {v u : VoteRun} (h : voteTests12 rf a v = some u)
    (hv : windowNonEmpty v.sv = true) : windowNonEmpty u.sv = true := by
  by_cases hq : v.cur.sequence = 1#3 ∧ v.cur.address = a
  · rw [voteTests12_of_seq1 hq] at h
    obtain ⟨⟨p, rest⟩, -, hu⟩ := Option.bind_eq_some_iff.1 h
    cases hu
    exact voteTest2_nonEmpty a (windowNonEmpty_fillSlot (by decide) v.sv)
  · rw [voteTests12_of_not_seq1 hq] at h
    cases h
    exact voteTest2_nonEmpty a hv

/-- The test for its sequence number takes a local packet of sequence 0 to 2 as the first one (R195 to R197). -/
theorem voteTests_nonEmpty {rf : Bool} {a : Addr} {v u : VoteRun} (ha : v.cur.address = a)
    (hq : v.cur.sequence.toNat ≤ 2) (h : voteTests rf a v = some u) : windowNonEmpty u.sv = true := by
  have hcases : v.cur.sequence = 0#3 ∨ v.cur.sequence = 1#3 ∨ v.cur.sequence = 2#3 := by bv_omega
  rcases hcases with hq | hq | hq
  · rw [voteTests_of_seq0 hq] at h
    obtain ⟨⟨p, rest⟩, -, hu⟩ := Option.bind_eq_some_iff.1 h
    exact voteTests12_nonEmpty hu (windowNonEmpty_fillSlot (by decide) v.sv)
  · rw [voteTests_of_not_seq0 (by simp [hq]), voteTests12_of_seq1 ⟨hq, ha⟩] at h
    obtain ⟨⟨p, rest⟩, -, hu⟩ := Option.bind_eq_some_iff.1 h
    cases hu
    exact voteTest2_nonEmpty a (windowNonEmpty_fillSlot (by decide) v.sv)
  · rw [voteTests_of_not_seq0 (by simp [hq]), voteTests12_of_not_seq1 (by simp [hq]), voteTest2_of_seq2 hq ha] at h
    cases h
    exact windowNonEmpty_fillSlot (by decide) v.sv

/-- Settles O49: the test that takes the first packet fills a slot, which the later ones keep. -/
theorem firstPacketInRangeFillsASlot : Obligations.FirstPacketInRangeFillsASlot := by
  intro rf a sd s s1 p0 v h0 hq hv
  rw [streamCombine_eq, h0, Option.bind_some] at hv
  have hfilled := voteTests_nonEmpty (streamFilter_address h0) hq hv
  exact ⟨hfilled, exists_resolve_of_nonEmpty hfilled v.sd⟩

/-! ### What a FRAME row does to a COMBINE (R199) -/

/-- A FRAME row is a CombineAccept of its packet behind an emptied window (R161). -/
theorem exec_ofSeq_combine {s : State} (hop : s.op = .combine) (q : Seq) (a : Addr) (d c : Byte) :
    exec (Instr.ofSeq q a d c) s =
      .next (s.emptyWindow.combineAccept { address := a, sequence := q, data := d }) := by
  have haccept : s.frameAccept (wireFrame a q d c) = s.emptyWindow.combineAccept _ :=
    State.frameAccept_combine hop s.rx s.w (wireFrame a q d c) s.wn
  rw [exec_ofSeq, haccept, wireFrame_packet]

/-- A local packet of sequence 2 fills slot 2 in any phase, and the vote is held (R197, R198). -/
theorem State.combineAccept_test2 {s : State} {p : Packet} (ha : p.address = s.localAddr) (hq : p.sequence = 2#3) :
    s.combineAccept p = (s.recordSlot2 p.data).completeVote := by
  rw [State.combineAccept_close (.inl ha) (by simp [hq]) (by simp [hq]), State.closeVote, if_pos ⟨hq, ha⟩]

theorem State.combineAccept_skipped {s : State} {p : Packet} (ha : p.address ≠ s.localAddr)
    (hskip : s.refetchFiltered = true ∨ s.cph = .p0) : s.combineAccept p = s :=
  if_pos ⟨ha, hskip⟩

/-- With unfiltered fetches a foreign packet behind the first fails the address condition of both tests left (R203). -/
theorem State.combineAccept_foreign {s : State} {p : Packet} (ha : p.address ≠ s.localAddr)
    (hf : s.refetchFiltered = false) (hc : s.cph ≠ .p0) : s.combineAccept p = s.completeVote := by
  rw [State.combineAccept_close (.inr ⟨hf, hc⟩) (fun h => hc h.1) (fun h => ha h.2.2), State.closeVote,
    if_neg fun h => ha h.2]

/-- Settles O17: the first test looks at the phase and the sequence only. -/
theorem combineFirstTest : Obligations.CombineFirstTest := by
  intro s d c hop hc
  have hexec : exec (.frameSeq0 s.localAddr d c) s = .next (s.emptyWindow.combineAccept _) :=
    exec_ofSeq_combine hop 0#3 s.localAddr d c
  rw [hexec, State.combineAccept_test0 (s := s.emptyWindow) rfl hc rfl]
  rfl

/-- Settles O18: in both phases the second test is still to come. -/
theorem combineSecondTest : Obligations.CombineSecondTest := by
  intro s d c hop hc
  have hbefore : s.cph ≠ .p2 := by rcases hc with hc | hc <;> simp [hc]
  have hexec : exec (.frameSeq1 s.localAddr d c) s = .next (s.emptyWindow.combineAccept _) :=
    exec_ofSeq_combine hop 1#3 s.localAddr d c
  rw [hexec, State.combineAccept_test1 (s := s.emptyWindow) rfl hbefore rfl]
  rfl

/-- Settles O19: with slot 2 filled the vote has a result. -/
theorem combineThirdTest : Obligations.CombineThirdTest := by
  intro s d c hop
  have hfilled : windowNonEmpty (s.sv ||| 4#3) = true := windowNonEmpty_fillSlot (i := 2) (by decide) s.sv
  obtain ⟨b, hb⟩ := exists_resolve_of_nonEmpty hfilled { s.sd with d2 := d }
  refine ⟨b, hb, ?_⟩
  have hexec : exec (.frameSeq2 s.localAddr d c) s = .next (s.emptyWindow.combineAccept _) :=
    exec_ofSeq_combine hop 2#3 s.localAddr d c
  rw [hexec, State.combineAccept_test2 (s := s.emptyWindow) rfl rfl,
    State.completeVote_of_resolve (s := s.emptyWindow.recordSlot2 d) hb, packByte_eq]
  rfl

/-- Settles O22: the operation goes on behind an emptied window. -/
theorem combineSkipsForeignFrames : Obligations.CombineSkipsForeignFrames := by
  intro s a d c q i hrow hop ha hskip
  rw [eq_ofSeq_of_mem_frameRows hrow, exec_ofSeq_combine hop, State.combineAccept_skipped (s := s.emptyWindow) ha hskip]
  rfl

/-- Settles O23: the vote is over the slots as they are. -/
theorem combineForeignFrameEndsUnfilteredVote : Obligations.CombineForeignFrameEndsUnfilteredVote := by
  intro s a d c q i b hrow hop ha hf hc hb
  rw [eq_ofSeq_of_mem_frameRows hrow, exec_ofSeq_combine hop, State.combineAccept_foreign (s := s.emptyWindow) ha hf hc,
    State.completeVote_of_resolve (s := s.emptyWindow) hb, packByte_eq]
  rfl

end Sys2Proof.Machine

namespace Sys2Proof.Machine

/-! ## No operation can fail (R220) -/

/-- A channel open in both directions takes and yields every byte, and what is not opened again is not refused (R253). -/
theorem not_refuses_of_opened {s : State} (hopen : s.channel = .opened true true)
    (hsched : ∀ tx rx turns, s.sched ≠ .openChannel tx rx :: turns) (r : Refusal) : ¬ Refuses s r := by
  intro h
  cases h with
  | transmit _ _ hch => simp [hopen, Channel.transmitRefusal] at hch
  | receive _ _ _ hch => simp [hopen, Channel.receiveRefusal] at hch
  | openChannel hs _ => exact hsched _ _ _ hs

/-- Settles O32: there is no fault to raise, and no reason to refuse the step. -/
theorem noStepFails : Obligations.NoStepFails := by
  intro s hopen hsched
  cases h : step s with
  | next t => exact ⟨t, rfl⟩
  | fault r => cases r
  | refused r => exact absurd (step_eq_refused_iff.1 h) (not_refuses_of_opened hopen hsched r)

end Sys2Proof.Machine

namespace Sys2Proof.Machine

/-! ## The Reset step (R251) -/

/-- The Reset step leaves an engine that accepts a command: `OP` and `RSPV` are cleared, so it is not busy (R102). -/
theorem State.hostReset_accepts (s : State) : s.hostReset.accepts := ⟨s.hostReset_op, s.hostReset_rspv⟩

/-- Settles O29: a reset turn takes the Reset step in any state, and what that writes and leaves is field for field
R251. -/
theorem resetStepInAnyState : Obligations.ResetStepInAnyState := by
  intro s turns hs
  refine ⟨(s.setSched turns).hostReset, step_of_reset hs, ?_⟩
  simp [State.hostReset_accepts]

/-! ## The launch premise of the Byte Channel (R253, log 13) -/

/-- Settles O31: the refusals are those of `Refuses`, one for each direction the channel does not serve and one for a
second opening; the first opening is a step. -/
theorem channelPremiseIsGuarded : Obligations.ChannelPremiseIsGuarded := by
  intro s turns
  refine ⟨fun hready hop hch => ?transmitClosed, fun hready hop hpull hch => ?receiveClosed,
    fun rx hready hop hch => ?transmitDisabled, fun tx hready hop hpull hch => ?receiveDisabled,
    fun tx rx hs hch => ?firstOpening, fun tx rx tx' rx' hs hch => ?secondOpening⟩
  case transmitClosed | transmitDisabled =>
    exact step_eq_refused_iff.2 (.transmit hready hop (by rw [hch]; rfl))
  case receiveClosed | receiveDisabled =>
    exact step_eq_refused_iff.2 (.receive hready hop hpull (by rw [hch]; rfl))
  case firstOpening => exact step_eq_next_iff.2 (.openChannel hs hch)
  case secondOpening => exact step_eq_refused_iff.2 (.openChannel hs (by simp [hch]))

end Sys2Proof.Machine
